-- ==== Sys2Proof/Word.lean ====
section
/-! DEFINITION. The machine words of the BZ-410: bytes of a frame, the 32-bit counts that wrap, the flag words. -/

namespace Sys2Proof

/-- One byte of a link or line frame. -/
abbrev Byte := BitVec 8

/-- A 32-bit count that wraps from 4,294,967,295 to 0 (model revision R14, round number R22, release count R60). -/
abbrev Count32 := BitVec 32

/-- The incident flag word of section 10.8: bit n is the n-th kind of its table. -/
abbrev IncWord := BitVec 16

/-- The device flag word of section 10.8. -/
abbrev DevWord := BitVec 8

end Sys2Proof
end

