-- ==== Sys2Proof/Config.lean ====
section
/-! DEFINITION. What the part fixes (the capacities of section 6 and the fixed durations) and the one value the
spec leaves open. -/

namespace Sys2Proof.Config

/-- Pipe segments S0000 to S1023 (R1). -/
def maxSegs : Nat := 1024
/-- Valves V000 to V767 (R2). -/
def maxValves : Nat := 768
/-- Pressure points P000 to P127 (R63). -/
def maxPoints : Nat := 128
/-- Valves attached to one segment (R3). -/
def maxValveList : Nat := 12
/-- Segments on the feed list (R5). -/
def maxFeeds : Nat := 16
/-- Entries of a line's command queue (R28). -/
def maxQueue : Nat := 16
/-- Segments of one zone, and entries of the zone stack (R77, R80). -/
def maxZone : Nat := 64
/-- Steps of one plan (R81, R146). -/
def maxSteps : Nat := 48
/-- Open-edge valves recorded with a plan (R80). -/
def maxEdgeValves : Nat := 4
/-- Stranded segments listed (R85). -/
def maxStranded : Nat := 128
/-- Entries of the spill stack (R84). -/
def maxSpill : Nat := 64
/-- Entries of an exclusion list (R90, R144, R145). -/
def maxExcl : Nat := 16
/-- Steps of one wave (R91). -/
def waveSize : Nat := 4
/-- Entries of the lock list (R54). -/
def maxLocks : Nat := 64
/-- Samples of a point's ring (R67). -/
def maxSamples : Nat := 16
/-- Replies queued on a link before a frame is discarded unanswered (R185 test 1, R187). -/
def maxReplies : Nat := 4
/-- The stop timer, in ms (R170). -/
def stopTimeout : Nat := 20000
/-- The largest body of a link frame (R181). -/
def maxBody : Nat := 240

/-- FREE VALUE (notes/assumptions/1.md). R56 says that after a lock-area write read back bad the next start-up
"may find it bad": whether the area then checks good is open. The argument counts the start-ups that met the
question, so that two of them need not agree. Nothing constrains it. -/
opaque lockAreaChecksGood : Nat → Bool

end Sys2Proof.Config
end

