-- ==== Sys2Proof/Syntax.lean ====
section
/-! DEFINITION. The commands of the BZ-410: one constructor of `Instr` per row of spec/opcode_table.json. A request
carries its frame's header and the items its owning chapter lists, as plain numbers (R184), so that a value out of
range can be carried and refused; an event carries what the outside world supplies. -/

namespace Sys2Proof

/-- The three master links (section 2); the order fixes their codes on the links (R184): A 0, B 1, S 2. -/
inductive Link where
  | A
  | B
  | S
  deriving DecidableEq, Repr

/-- What a request frame carries beside its kind and its items (R181): the link it came on, the tag byte the master
chose, and the length byte. The CRC-16 of a request row is good: a frame with a bad one is `discardedFrame`. -/
structure Hdr where
  link : Link
  tag : Nat
  len : Nat
  deriving DecidableEq, Repr

/-- The commands. Requests come first, in the order of R190 behind `reset`; then the link events, the store events,
the planner's, the line replies and the timers, as the table lists them. -/
inductive Instr where
  /-- Power-on or the RESET input (R19). -/
  | reset
  | readDevice (h : Hdr)
  | readSeg (h : Hdr) (seg : Nat)
  | readValve (h : Hdr) (valve : Nat)
  | readZone (h : Hdr) (zone : Nat)
  | readPoint (h : Hdr) (point : Nat)
  /-- A line and a starting node address (R44). -/
  | readLine (h : Hdr) (line addr : Nat)
  /-- A table, RULES 0 or GROUPS 1, and a starting index (R125). -/
  | readPolicy (h : Hdr) (table start : Nat)
  | readIncident (h : Hdr) (slot : Nat)
  /-- A slot, a serial tag, a part (SUMMARY 0, ZONE 1, STEPS 2, STRANDED 3) and a starting position (R193). -/
  | readPlan (h : Hdr) (slot tag part start : Nat)
  | readLocks (h : Hdr) (start : Nat)
  | readAttention (h : Hdr)
  /-- The link named, A 0, B 1 or S 2 (R192). -/
  | readLink (h : Hdr) (named : Nat)
  | segPut (h : Hdr) (seg use zone length celerity rating diameter protection : Nat)
  | segDrop (h : Hdr) (seg : Nat)
  /-- `sideB` is a segment, or 65,535 for EXTERNAL (R184). -/
  | valvePut (h : Hdr) (valve sideA sideB line addr size turns maxSpeed minSpeed velocity normal mark : Nat)
  | valveDrop (h : Hdr) (valve : Nat)
  | zonePut (h : Hdr) (zone nominal drained window allowance : Nat)
  | feedSet (h : Hdr) (segs : List Nat)
  | pointPut (h : Hdr) (point assigned seg line addr : Nat)
  | rulePut (h : Hdr) (rule stage test cmp low high exclude cls conc mode value : Nat)
  | groupPut (h : Hdr) (group enabled : Nat) (members : List Nat) (lead : Nat)
  | modelStore (h : Hdr)
  /-- The mode (FIXED 0, ROTATING 1, PREFERRED 2); the slot and the tag are carried for PREFERRED only (R162). -/
  | grantMode (h : Hdr) (mode slot tag : Nat)
  | lineStop (h : Hdr) (line : Nat)
  | lineStart (h : Hdr) (line : Nat)
  | mark (h : Hdr) (valves : List Nat) (value : Nat)
  | lock (h : Hdr) (valve : Nat)
  | unlock (h : Hdr) (valve force : Nat)
  | release (h : Hdr) (valve : Nat)
  /-- The OPEN request: the burst segment and the requested priority (R129). -/
  | openInc (h : Hdr) (seg prio : Nat)
  | concur (h : Hdr) (slot tag : Nat)
  | withdraw (h : Hdr) (slot tag : Nat)
  | hold (h : Hdr) (slot tag : Nat)
  | resume (h : Hdr) (slot tag : Nat)
  | extend (h : Hdr) (slot tag : Nat) (valves : List Nat)
  | confirm (h : Hdr) (slot tag : Nat)
  | restore (h : Hdr) (slot tag : Nat)
  | abandon (h : Hdr) (slot tag : Nat)
  /-- One word of incident kinds, one of device kinds, and the value: disable 0, enable 1 (R199). -/
  | noticeMask (h : Hdr) (inc dev value : Nat)
  /-- The target, a slot 0 to 15 or DEVICE 255, a serial tag and a word of the target's kinds (R200). -/
  | ack (h : Hdr) (target tag flags : Nat)
  /-- A good request frame whose kind is 0 or above 40 (R185 test 3). -/
  | unknownRequest (h : Hdr) (kind : Nat)
  /-- The bytes of a frame the receiver discards: an unknown marker, a length above 240 or a bad CRC-16 (R182). -/
  | discardedFrame (link : Link) (bytes : List Byte)
  /-- An idle gap, and the bytes of the short frame it cuts off, if one had begun (R182). -/
  | idleGap (link : Link) (short : List Byte)
  /-- The frame in transmission on a link has been sent (R187). -/
  | transmissionEnd (link : Link)
  /-- The image write in progress ends; the area's content as read back and the CRC-32 stored with it (R17). -/
  | imageWriteEnd (content : List Byte) (crc : BitVec 32)
  /-- The lock-area write in progress ends, with the same two items (R56). -/
  | lockAreaWriteEnd (content : List Byte) (crc : BitVec 32)
  | computationEnd
  /-- A QUERY reply frame on a line: node address, position and status byte (R23). -/
  | report (line : Fin 4) (addr position : Nat) (status : Byte)
  /-- A MOVE reply frame: node address and result code (R23). -/
  | moveReply (line : Fin 4) (addr result : Nat)
  | stopReply (line : Fin 4) (addr result : Nat)
  /-- A SAMPLE reply frame: node address, pressure and quality code (R23). -/
  | sampleReply (line : Fin 4) (addr pressure quality : Nat)
  /-- The reply window of the line's transaction runs out (R24, R36). -/
  | miss (line : Fin 4)
  /-- The motion timer of the motion holding a slot of a line expires (R170). -/
  | motionTimerExpiry (line slot : Fin 4)
  | stopTimerExpiry (line slot : Fin 4)
  /-- The confirmation timer of an incident expires (R141). -/
  | confirmationTimerExpiry (slot : Fin 16)
  deriving DecidableEq, Repr

/-- The request's header, for a row that is a request frame. -/
def Instr.hdr? : Instr → Option Hdr
  | .reset => none
  | .readDevice h => some h
  | .readSeg h _ => some h
  | .readValve h _ => some h
  | .readZone h _ => some h
  | .readPoint h _ => some h
  | .readLine h _ _ => some h
  | .readPolicy h _ _ => some h
  | .readIncident h _ => some h
  | .readPlan h _ _ _ _ => some h
  | .readLocks h _ => some h
  | .readAttention h => some h
  | .readLink h _ => some h
  | .segPut h _ _ _ _ _ _ _ _ => some h
  | .segDrop h _ => some h
  | .valvePut h _ _ _ _ _ _ _ _ _ _ _ _ => some h
  | .valveDrop h _ => some h
  | .zonePut h _ _ _ _ _ => some h
  | .feedSet h _ => some h
  | .pointPut h _ _ _ _ _ => some h
  | .rulePut h _ _ _ _ _ _ _ _ _ _ _ => some h
  | .groupPut h _ _ _ _ => some h
  | .modelStore h => some h
  | .grantMode h _ _ _ => some h
  | .lineStop h _ => some h
  | .lineStart h _ => some h
  | .mark h _ _ => some h
  | .lock h _ => some h
  | .unlock h _ _ => some h
  | .release h _ => some h
  | .openInc h _ _ => some h
  | .concur h _ _ => some h
  | .withdraw h _ _ => some h
  | .hold h _ _ => some h
  | .resume h _ _ => some h
  | .extend h _ _ _ => some h
  | .confirm h _ _ => some h
  | .restore h _ _ => some h
  | .abandon h _ _ => some h
  | .noticeMask h _ _ _ => some h
  | .ack h _ _ _ => some h
  | .unknownRequest h _ => some h
  | .discardedFrame _ _ => none
  | .idleGap _ _ => none
  | .transmissionEnd _ => none
  | .imageWriteEnd _ _ => none
  | .lockAreaWriteEnd _ _ => none
  | .computationEnd => none
  | .report _ _ _ _ => none
  | .moveReply _ _ _ => none
  | .stopReply _ _ _ => none
  | .sampleReply _ _ _ _ => none
  | .miss _ => none
  | .motionTimerExpiry _ _ => none
  | .stopTimerExpiry _ _ => none
  | .confirmationTimerExpiry _ => none

end Sys2Proof
end

