-- ==== Sys2Proof/Machine/State.lean ====
section
/-! DEFINITION. Everything the BZ-410 holds, block by block (section 4 of the scope file), as plain data, and the
machine right after power-on. A table that holds few of its records (segments, valves, points) is a list of index
and record with rising indices; an index not listed is undefined (R1, R2) or unassigned (R63). -/

namespace Sys2Proof.Machine

open Sys2Proof

/-! ## Network model -/

inductive SegUse where
  | inService
  | disused
  deriving DecidableEq, Repr

/-- The protection classes, NONE lowest (R1). -/
inductive Protection where
  | none
  | hydrant
  | critical
  deriving DecidableEq, Repr

/-- A defined segment record (R1). -/
structure Seg where
  use : SegUse
  zone : Fin 8
  length : Nat
  celerity : Nat
  rating : Nat
  diameter : Nat
  protection : Protection
  valves : List Nat
  deriving DecidableEq, Repr

inductive NormalPos where
  | opened
  | closed
  deriving DecidableEq, Repr

/-- The service mark of a valve (R2, R15). -/
inductive ServiceMark where
  | inService
  | inoperable
  deriving DecidableEq, Repr

/-- The static part of a valve record (R2). `sideB` is `none` for EXTERNAL. -/
structure ValveStatic where
  sideA : Nat
  sideB : Option Nat
  line : Fin 4
  addr : Nat
  size : Nat
  turns : Nat
  maxSpeed : Nat
  minSpeed : Nat
  velocity : Nat
  normal : NormalPos
  mark : ServiceMark
  deriving DecidableEq, Repr

/-! ## Valve status table -/

/-- The eleven motion states, in the order of the table of R46. -/
inductive MotionState where
  | atRest
  | closeRun
  | closeWait
  | closeSlow
  | openWait
  | openSlow
  | openRun
  | stopping
  | stuck
  | unresponsive
  | localMode
  deriving DecidableEq, Repr

inductive PosStatus where
  | unknown
  | fresh
  | stale
  deriving DecidableEq, Repr

/-- An actuator's report: its position and its status byte (R23). -/
structure Report where
  position : Nat
  status : Byte
  deriving DecidableEq, Repr

/-- A motion handed to the executor for a valve and not yet granted (R47): a restore step, named by incident slot and
serial tag (its step is the incident's step for this valve), or a release, named by its arrival number (R60). -/
inductive Waiting where
  | restore (slot : Fin 16) (tag : Nat)
  | release (arrival : Count32)
  deriving DecidableEq, Repr

/-- The volatile record of a valve (R45), with the line controller's report chain for its actuator (R22, R32 to R34).
The mover is not stored here: it is the motion that holds a motion slot for the valve (`State.motionOf`).
The field `released` is the model's own (log 41): a release has completed here (R168) and no position has been accepted since, no
motion has taken a slot for the valve, and its normal position is the same. -/
structure ValveVol where
  motion : MotionState
  reported : Option Nat
  accepted : Option Nat
  agreement : Nat
  status : PosStatus
  waiting : List Waiting
  holds : List (Fin 16)
  lastReport : Option Report
  closedRun : Nat
  openRun : Nat
  targetRun : Nat
  target : Option Nat
  awaitRest : Bool
  released : Bool
  deriving DecidableEq, Repr

/-- The volatile record as it starts afresh (R10, R45). -/
def ValveVol.fresh : ValveVol where
  motion := .atRest
  reported := none
  accepted := none
  agreement := 0
  status := .unknown
  waiting := []
  holds := []
  lastReport := none
  closedRun := 0
  openRun := 0
  targetRun := 0
  target := none
  awaitRest := false
  released := false

structure Valve where
  st : ValveStatic
  vol : ValveVol
  deriving DecidableEq, Repr

/-- An entry of the lock list (R54). -/
structure LockEntry where
  valve : Nat
  link : Link
  position : Nat
  deriving DecidableEq, Repr

/-! ## Motions -/

/-- What a motion belongs to (R159): an incident step, named by slot and serial tag (it is that incident's step for
the motion's valve), or a release motion, named by its arrival number. -/
inductive Owner where
  | step (slot : Fin 16) (tag : Nat)
  | release (arrival : Count32)
  deriving DecidableEq, Repr

/-- The direction of a motion and of its MOVEs (R52). -/
inductive Dir where
  | closing
  | opening
  deriving DecidableEq, Repr

/-- The results of the closure timing arithmetic kept with a step or a release (R97). -/
structure Figures where
  slow : Nat
  runEst : Nat
  slowEst : Nat
  surgeRisk : Bool
  deriving DecidableEq, Repr

/-- Why a motion was stopped: the four requests of R173, the surge guard (R179), or a reversal (R176). -/
inductive StopKind where
  | hold
  | restore
  | abandon
  | withdraw
  | guard
  | reversal
  deriving DecidableEq, Repr

/-- The record of a motion that holds a slot (R159). The timers hold the instant at which they expire (R170). A step's
figures stand in the step, and `figures` is none; a release's stand here (R107). While a step's tenancy stands, its step
number is its place in the incident's plan (R95); `stepNo` keeps the number it had when the tenancy ended (R45, R62, log 28).
`reversal` names the tenancy, by slot and serial tag, whose hold reverses the opening (R176, R177). -/
structure Motion where
  owner : Owner
  valve : Nat
  dir : Dir
  figures : Option Figures
  motionTimer : Option Nat
  stopTimer : Option Nat
  stop : Option StopKind
  reversal : Option (Fin 16 × Nat)
  stepNo : Option Nat
  deriving DecidableEq, Repr

/-! ## Valve lines -/

/-- A command handed to a line (R28, R169). A MOVE keeps the timeout computed when it was handed (R105). -/
inductive Cmd where
  | move (target speed : Nat) (dir : Dir) (timeout : Nat)
  | stop
  deriving DecidableEq, Repr

/-- An entry of the command queue. `next` is the command that takes the entry's place when the transaction now in
flight for it ends (R28). -/
structure Entry where
  valve : Nat
  cmd : Cmd
  next : Option Cmd
  deriving DecidableEq, Repr

inductive LineState where
  | running
  | stopping
  | stopped
  deriving DecidableEq, Repr

/-- What a line keeps for a node of its poll ring (R22). -/
structure Node where
  misses : Nat
  lastValid : Option Count32
  deriving DecidableEq, Repr

/-- The kinds of transaction (R23). -/
inductive TxnKind where
  | query
  | move
  | stop
  | sample
  deriving DecidableEq, Repr

/-- The transaction in flight: its node and kind (R22), whether it is a poll visit (R27), and whether the model has
removed its node from the line since (R24), so that its outcome is neither a reply nor a miss. -/
structure Txn where
  addr : Nat
  kind : TxnKind
  visit : Bool
  gone : Bool
  deriving DecidableEq, Repr

/-- A line controller (R22) with the motion slots of its line and their arbiter (R159). `nodes` is the poll ring, each
address with what the line keeps for it. `furtherDue` says that a poll visit has ended and its further transaction
has not been taken yet (R29). `startRounds` counts the start-up rounds completed, up to 2 (R20). `kept` holds the
commands returned as not sent because the queue was full (R169). -/
structure Line where
  state : LineState
  nodes : List (Nat × Node)
  cursor : Option Nat
  round : Count32
  queue : List Entry
  rotation : Fin 4
  txn : Option Txn
  furtherDue : Bool
  startRounds : Nat
  slots : Vector (Option Motion) 4
  arbiter : Fin 16
  kept : List Entry
  deriving DecidableEq, Repr

/-- The line after reset, before its ring is built (R22, R159). -/
def Line.reset : Line where
  state := .running
  nodes := []
  cursor := none
  round := 0
  queue := []
  rotation := 3
  txn := none
  furtherDue := false
  startRounds := 0
  slots := Vector.replicate 4 none
  arbiter := 15
  kept := []

/-! ## Pressure zones and points -/

/-- A pressure zone record (R4). -/
structure ZoneRec where
  nominal : Nat
  drained : Nat
  window : Nat
  allowance : Nat
  deriving DecidableEq, Repr

/-- The start values of R4. -/
def ZoneRec.start : ZoneRec where
  nominal := 1000
  drained := 0
  window := 3600
  allowance := 1

inductive GuardState where
  | clear
  | guarded
  deriving DecidableEq, Repr

/-- A motion on a guard's stopped list (R178), named by its valve and owner. -/
structure Stopped where
  valve : Nat
  owner : Owner
  deriving DecidableEq, Repr

/-- A pressure zone: its record, its surge guard (R178), and its slow-phase allowance with its arbiter (R165): the
valves that hold the allowance, the valves whose motions ask for it, and the rotation cursor. -/
structure Zone where
  record : ZoneRec
  guard : GuardState
  tripping : Option Nat
  clearCount : Nat
  stopped : List Stopped
  holders : List Nat
  requests : List Nat
  arbiter : Fin 16
  deriving DecidableEq, Repr

/-- A zone after reset, with its record (R165, R178). -/
def Zone.fresh (r : ZoneRec) : Zone where
  record := r
  guard := .clear
  tripping := none
  clearCount := 0
  stopped := []
  holders := []
  requests := []
  arbiter := 15

/-- A point assignment (R63). -/
structure PointAssign where
  seg : Nat
  line : Fin 4
  addr : Nat
  deriving DecidableEq, Repr

/-- A stored sample (R66). -/
structure Sample where
  pressure : Nat
  round : Count32
  deriving DecidableEq, Repr

/-- An assigned point with its volatile state (R66); the newest sample is the last of the ring. -/
structure Point where
  asg : PointAssign
  ring : List Sample
  fresh : Bool
  bad : Nat
  deriving DecidableEq, Repr

/-- A point as it starts afresh (R65, R66). -/
def Point.start (a : PointAssign) : Point where
  asg := a
  ring := []
  fresh := false
  bad := 0

/-! ## Policy -/

/-- The stage of a rule (R110). -/
inductive Stage where
  | off
  | valve
  | plan
  deriving DecidableEq, Repr

inductive Compare where
  | equal
  | notEqual
  | inRange
  | outOfRange
  deriving DecidableEq, Repr

/-- The closure classes, GENTLE the strictest (R118). -/
inductive Class where
  | normal
  | slow
  | gentle
  deriving DecidableEq, Repr

inductive PrioMode where
  | keep
  | raise
  | lower
  | set
  deriving DecidableEq, Repr

/-- A policy rule (R110). Tests 0 to 7 are the valve-stage tests of R111, 8 to 14 the plan-stage tests of R112. -/
structure Rule where
  stage : Stage
  test : Fin 15
  cmp : Compare
  low : Nat
  high : Nat
  exclude : Bool
  cls : Class
  concurrence : Bool
  mode : PrioMode
  value : Nat
  deriving DecidableEq, Repr

/-- The empty values of R110; its action is the default action of R115. -/
def Rule.empty : Rule where
  stage := .off
  test := 0
  cmp := .equal
  low := 0
  high := 0
  exclude := false
  cls := .normal
  concurrence := false
  mode := .keep
  value := 0

/-- A policy group (R114); the member set is held as rising rule numbers. -/
structure Group where
  enabled : Bool
  members : List (Fin 32)
  lead : Fin 32
  deriving DecidableEq, Repr

/-- The empty values of group `g` (R114). -/
def Group.empty (g : Fin 16) : Group where
  enabled := false
  members := [⟨g.val, by omega⟩]
  lead := ⟨g.val, by omega⟩

def Group.emptyTable : Vector Group 16 := Vector.ofFn Group.empty

/-! ## Plans and incidents -/

inductive Role where
  | boundary
  | interior
  deriving DecidableEq, Repr

/-- The step states, in the order of the table of R95. -/
inductive StepState where
  | waiting
  | moving
  | shadow
  | closed
  | skipped
  | failed
  | reopened
  | retained
  deriving DecidableEq, Repr

/-- The cause with which the motion executor reports a step FAILED (R163, R171, R172). -/
inductive FailCause where
  | timeout
  | stopTimeout
  | refusedLocal
  | refusedTrip
  | stuck
  | localMode
  | unresponsive
  | locked
  | lineStopped
  deriving DecidableEq, Repr

/-- A step of a plan (R95); its step number is its place in the list. `takenUp` marks a restore step that has been
taken up (R152); `cause` keeps the cause reported with FAILED (R137). -/
structure Step where
  valve : Nat
  role : Role
  state : StepState
  wave : Nat
  cls : Class
  figures : Figures
  takenUp : Bool
  cause : Option FailCause
  deriving DecidableEq, Repr

inductive CompKind where
  | first
  | replan
  deriving DecidableEq, Repr

/-- A plan record (R94). -/
structure Plan where
  zone : List Nat
  steps : List Step
  stranded : List Nat
  strandedCount : Nat
  more : Bool
  protection : Protection
  openEdge : Bool
  strandsProtected : Bool
  noFeeds : Bool
  edgeValves : List Nat
  edgeCount : Nat
  rescans : Nat
  group : Option (Fin 16)
  concurrence : Bool
  cls : Class
  prio : Nat
  kind : CompKind
  deriving DecidableEq, Repr

inductive FailReason where
  | zoneLimit
  | stepLimit
  | exclusionsFull
  deriving DecidableEq, Repr

/-- A recorded failure with its items (R93, R144, R146); a count that the rule does not give is none. -/
structure Failure where
  reason : FailReason
  zoneCount : Option Nat
  stepCount : Option Nat
  excl : List Nat
  deriving DecidableEq, Repr

/-- The incident states, in the order of the table of section 8.2. -/
inductive IncState where
  | free
  | planning
  | awaitingConcurrence
  | closing
  | replanning
  | held
  | isolated
  | confirmed
  | leakThrough
  | planFailed
  | restoring
  deriving DecidableEq, Repr

/-- The confirmation watch (R126): RUNNING holds the instant of its expiry. -/
inductive Watch where
  | idle
  | running (expiry : Nat)
  | ended
  deriving DecidableEq, Repr

/-- The direction to which RESUME returns (R126). -/
inductive HeldFrom where
  | closing
  | restoring
  deriving DecidableEq, Repr

/-- An incident record (R126). `lastWave` is the highest wave number the last grouping formed (R91, R147, R151): a wave
exists when its number does not exceed it. -/
structure Incident where
  state : IncState
  tag : Option Nat
  link : Option Link
  burst : Option Nat
  reqPrio : Nat
  effPrio : Nat
  concRequired : Bool
  concGiven : Option Link
  excl : List Nat
  plan : Option Plan
  current : Option Nat
  staged : Option Nat
  lastWave : Nat
  holdPending : Bool
  heldFrom : Option HeldFrom
  replanDue : Bool
  watch : Watch
  failure : Option Failure
  flags : IncWord
  deriving DecidableEq, Repr

/-- A slot after reset (R126); its two priorities, which have no empty value, are 0 (log 37). -/
def Incident.empty : Incident where
  state := .free
  tag := none
  link := none
  burst := none
  reqPrio := 0
  effPrio := 0
  concRequired := false
  concGiven := none
  excl := []
  plan := none
  current := none
  staged := none
  lastWave := 0
  holdPending := false
  heldFrom := none
  replanDue := false
  watch := .idle
  failure := none
  flags := 0

/-! ## Planner -/

/-- A step as the planner gathers it (R81): a held boundary (R79) or a boundary with the valve-stage class and
concurrence recorded for it; the figures come at step timing (R87). -/
structure PlanStep where
  valve : Nat
  held : Bool
  cls : Class
  concurrence : Bool
  figures : Option Figures
  deriving DecidableEq, Repr

/-- The stages of a computation, in the order of R75; `ready` waits for completion (R88 to R92). -/
inductive CompStage where
  | search
  | trim
  | feeds
  | stranded
  | policy
  | timing
  | ready
  | failed (r : FailReason)
  deriving DecidableEq, Repr

/-- The computation in progress and its working sets (R73): the zone list (its members are the zone membership
flags), the zone stack (top first), the segment whose list is being gone through with the valves still to examine, the
examined marks, the boundary list, the open-edge record (R80), and the sets of the stranded analysis (R84). -/
structure Comp where
  slot : Fin 16
  tag : Nat
  kind : CompKind
  again : Bool
  stage : CompStage
  zone : List Nat
  stack : List Nat
  cur : Option (Nat × List Nat)
  examined : List Nat
  boundary : List PlanStep
  edgeValves : List Nat
  edgeCount : Nat
  visited : List Nat
  explored : List Nat
  spill : List Nat
  spillFlag : Bool
  rescans : Nat
  stranded : List Nat
  noFeeds : Bool
  protection : Protection
  group : Option (Fin 16)
  concurrence : Bool
  cls : Class
  prio : Nat
  deriving DecidableEq, Repr

structure Planner where
  queue : List (Fin 16)
  comp : Option Comp
  deriving DecidableEq, Repr

/-! ## Store -/

/-- What the store image holds (R16). -/
structure Image where
  segs : List (Nat × Seg)
  valves : List (Nat × ValveStatic)
  zones : Vector ZoneRec 8
  feeds : List Nat
  points : List (Nat × PointAssign)
  rules : Vector Rule 32
  groups : Vector Group 16
  revision : Count32
  deriving DecidableEq, Repr

/-- One area of the store, as the next start-up will find it: checking bad, checking good with its content, or (the
lock area after a failed write, R56) checking good or bad, which is open. -/
inductive Area (α : Type) where
  | bad
  | good (content : α)
  | doubtful (content : α)
  deriving DecidableEq, Repr

/-- A store write in progress: the link whose request caused it and what it captured (R17, R56). -/
inductive Write where
  | image (link : Link) (content : Image)
  | locks (link : Link) (content : List LockEntry)
  deriving DecidableEq, Repr

/-- A store write that waits (R18). An image write has its content captured when MODEL_STORE was taken (R17); a
lock-area write captures when it begins (R56). -/
inductive WriteDue where
  | image (link : Link) (content : Image)
  | locks (link : Link)
  deriving DecidableEq, Repr

structure Store where
  image : Area Image
  locks : Area (List LockEntry)
  active : Option Write
  due : List WriteDue
  deriving DecidableEq, Repr

/-! ## Link ports -/

/-- The outcomes of R189, in the order that fixes their codes. -/
inductive Out where
  | done
  | accepted
  | busy
  | starting
  | notPermitted
  | unknownRequest
  | badLength
  | badIndex
  | outOfRange
  | listFull
  | tableFull
  | inUse
  | incidentsActive
  | mixedStage
  | wrongState
  | staleTag
  | sameLink
  | inZone
  | disused
  | moving
  | locked
  | notOwner
  | stale
  | storeFault
  deriving DecidableEq, Repr

/-- One item of a body: a number in 1, 2 or 4 bytes, most significant first (R184). -/
structure Item where
  width : Nat
  value : Nat
  deriving DecidableEq, Repr

/-- A reply made: the kind and tag of its request, its outcome and its items (R189). -/
structure Reply where
  kind : Nat
  tag : Nat
  outcome : Out
  items : List Item
  deriving DecidableEq, Repr

/-- An entry of an attention summary (R197). -/
structure Summary where
  slot : Fin 16
  tag : Option Nat
  flags : IncWord
  deriving DecidableEq, Repr

/-- A frame in transmission: a reply, or a notice with the device flags and summary it was composed with (R198). -/
inductive OutFrame where
  | reply (r : Reply)
  | notice (device : DevWord) (entries : List Summary)
  deriving DecidableEq, Repr

/-- The states of a link's receiver (R182). -/
inductive Rx where
  | idle
  | receiving
  | discarding
  deriving DecidableEq, Repr

/-- A link's copy for an incident slot (R194). -/
structure Copy where
  tag : Option Nat
  pending : IncWord
  deriving DecidableEq, Repr

/-- The request held in a link's slot (R186): its code and its tag. -/
structure Held where
  code : Nat
  tag : Nat
  deriving DecidableEq, Repr

/-- A link port (R182, R183, R186, R187, R194). The summary and the ATTN output are derived (R197). -/
structure Port where
  rx : Rx
  errors : Nat
  slot : Option Held
  replies : List Reply
  sending : Option OutFrame
  noticePending : Bool
  incMask : IncWord
  devMask : DevWord
  copies : Vector Copy 16
  device : DevWord
  deriving DecidableEq, Repr

/-- All thirteen incident kinds (R194, section 10.8). -/
def allInc : IncWord := 0x1FFF

/-- All six device kinds. -/
def allDev : DevWord := 0x3F

/-- A link port after reset (R182, R183, R186, R187, R194). -/
def Port.reset : Port where
  rx := .discarding
  errors := 0
  slot := none
  replies := []
  sending := none
  noticePending := false
  incMask := allInc
  devMask := allDev
  copies := Vector.replicate 16 (Copy.mk none 0)
  device := 0

/-! ## The device -/

inductive DevState where
  | starting
  | running
  deriving DecidableEq, Repr

/-- The grant mode, with the named tenancy for PREFERRED (R162). -/
inductive GrantMode where
  | fixed
  | rotating
  | preferred (slot : Fin 16) (tag : Nat)
  deriving DecidableEq, Repr

/-- The whole machine. `pending` is the queue of commands that wait, first in first out. `now` is the millisecond
timebase (section 7.4). `openChecks` is the MODEL's own: it counts the start-ups that met an open check (log 1). -/
structure State where
  pending : List Instr
  now : Nat
  device : DevState
  segs : List (Nat × Seg)
  valves : List (Nat × Valve)
  zones : Vector Zone 8
  feeds : List Nat
  points : List (Nat × Point)
  revision : Count32
  rules : Vector Rule 32
  groups : Vector Group 16
  store : Store
  lines : Vector Line 4
  locks : List LockEntry
  releaseCount : Count32
  orphanCount : Nat
  planner : Planner
  incidents : Vector Incident 16
  tagCounter : Nat
  grantMode : GrantMode
  portA : Port
  portB : Port
  portS : Port
  openChecks : Nat
  deriving DecidableEq, Repr

/-- Why the block stops with a fault: it never does; every command either has an effect or changes nothing. -/
inductive Fault where
  deriving DecidableEq, Repr

/-- Why a command is refused. Each is safe: the model stops where the hardware sees another command. -/
inductive Refusal where
  /-- Raised by an arm of `exec` for a row without a meaning; no arm raises it. Safe. -/
  | notModelled (mnemonic : String)
  /-- Raised for an `unknownRequest` whose kind R190 lists: that frame is another row's command. Safe. -/
  | kindIsListed
  /-- Raised for a `discardedFrame` or `idleGap` whose bytes the receiver would not discard so (R182): a good frame
  is another row's command, an incomplete one is cut off by `idleGap`. Safe. -/
  | frameIsNotDiscarded
  deriving DecidableEq, Repr

/-- A link port right after power-on with a store never written: MODEL_LOST and LOCKS_LOST are pending (R19, R196) and
the notice that carries them is in transmission (R187, R198). -/
def Port.bothLost : Port :=
  { Port.reset with device := 0x18, sending := some (.notice 0x18 []) }

/-- The machine right after power-on of a module whose store has never been written, so that both areas check bad
(R16): the empty model of R19, every line with an empty ring, the start-up rounds complete at once (R20). -/
def State.reset : State where
  pending := []
  now := 0
  device := .running
  segs := []
  valves := []
  zones := Vector.replicate 8 (Zone.fresh ZoneRec.start)
  feeds := []
  points := []
  revision := 0
  rules := Vector.replicate 32 Rule.empty
  groups := Group.emptyTable
  store := { image := .bad, locks := .bad, active := none, due := [] }
  lines := Vector.replicate 4 { Line.reset with startRounds := 2 }
  locks := []
  releaseCount := 0
  orphanCount := 0
  planner := { queue := [], comp := none }
  incidents := Vector.replicate 16 Incident.empty
  tagCounter := 0
  grantMode := .fixed
  portA := Port.bothLost
  portB := Port.bothLost
  portS := Port.bothLost
  openChecks := 0

end Sys2Proof.Machine
end

