-- ==== Sys2Proof/Machine/Tables.lean ====
section
/-! DEFINITION. Tables held as lists of index and record with rising indices, and the small list functions the blocks
share. -/

namespace Sys2Proof.Machine

/-- The record at an index of a table, if it is listed. -/
def tabGet {α : Type} : List (Nat × α) → Nat → Option α
  | [], _ => none
  | (j, a) :: rest, k => if k = j then some a else tabGet rest k

/-- Write the record at an index, keeping the indices rising. -/
def tabPut {α : Type} : List (Nat × α) → Nat → α → List (Nat × α)
  | [], k, x => [(k, x)]
  | (j, a) :: rest, k, x =>
    if k < j then (k, x) :: (j, a) :: rest
    else if k = j then (k, x) :: rest
    else (j, a) :: tabPut rest k x

/-- Take an index off a table. -/
def tabDrop {α : Type} : List (Nat × α) → Nat → List (Nat × α)
  | [], _ => []
  | (j, a) :: rest, k => if k = j then rest else (j, a) :: tabDrop rest k

/-- Change the record at an index, where it is listed. -/
def tabMod {α : Type} : List (Nat × α) → Nat → (α → α) → List (Nat × α)
  | [], _, _ => []
  | (j, a) :: rest, k, f => if k = j then (j, f a) :: rest else (j, a) :: tabMod rest k f

/-- The indices of a table rise, and none is listed twice: the one canonical form, so that equal tables are equal
lists. -/
def tabRising {α : Type} : List (Nat × α) → Bool
  | [] => true
  | [_] => true
  | (j, _) :: (k, b) :: rest => decide (j < k) && tabRising ((k, b) :: rest)

/-- The next higher index of a rising table (R27). -/
def tabAfter {α : Type} : List (Nat × α) → Nat → Option Nat
  | [], _ => none
  | (j, _) :: rest, k => if k < j then some j else tabAfter rest k

/-- The lowest index of a table. -/
def tabFirst {α : Type} : List (Nat × α) → Option Nat
  | [] => none
  | (j, _) :: _ => some j

/-- All four numbers of a line or a motion slot, rising. -/
def allFour : List (Fin 4) := [0, 1, 2, 3]

/-- All eight zone numbers. -/
def allEight : List (Fin 8) := [0, 1, 2, 3, 4, 5, 6, 7]

/-- All sixteen incident slots or groups, rising. -/
def allSixteen : List (Fin 16) := [0, 1, 2, 3, 4, 5, 6, 7, 8, 9, 10, 11, 12, 13, 14, 15]

/-- Add a member to a set held as a rising list. -/
def setInsert {n : Nat} : List (Fin n) → Fin n → List (Fin n)
  | [], x => [x]
  | y :: rest, x => if x < y then x :: y :: rest else if x = y then y :: rest else y :: setInsert rest x

/-- The list without later repeats of an item: an item listed twice counts once (R184). -/
def dedup (l : List Nat) : List Nat :=
  l.foldl (fun acc x => if acc.contains x then acc else acc ++ [x]) []

/-- The smallest whole number not less than the exact quotient (section 7.3). -/
def ceilDiv (a b : Nat) : Nat := (a + b - 1) / b

/-- The place of an item in a list, from 0. -/
def placeOf (l : List Nat) (x : Nat) : Option Nat := l.idxOf? x

/-- A Fin of a bound, where the number lies below it. -/
def toFin? (n k : Nat) : Option (Fin n) := if h : k < n then some ⟨k, h⟩ else none

end Sys2Proof.Machine
end

