-- ==== Sys2Proof/Machine/Frames.lean ====
section
/-! DEFINITION. The bytes on the wires: the three CRCs (R16, R23, R181), the frames of the master links and the valve
lines, and the receiver of a link (R182). -/

namespace Sys2Proof.Machine

open Sys2Proof

/-! ## CRCs -/

/-- A function applied eight times: once for each bit of a byte. -/
def eightTimes {α : Type} (f : α → α) (x : α) : α := f (f (f (f (f (f (f (f x)))))))

/-- One bit of a CRC-8 with polynomial x^8 + x^2 + x + 1 (R23). -/
def crc8Bit (c : BitVec 8) : BitVec 8 := if c.msb then (c <<< 1) ^^^ 0x07 else c <<< 1

/-- One byte of the CRC-8, most significant bit first. -/
def crc8Byte (c : BitVec 8) (b : Byte) : BitVec 8 := eightTimes crc8Bit (c ^^^ b)

/-- The CRC-8 of a line frame: initial value 0, no final inversion (R23). -/
def crc8 (bytes : List Byte) : BitVec 8 := bytes.foldl crc8Byte 0

/-- One bit of a CRC-16 with polynomial 0x1021 (R181). -/
def crc16Bit (c : BitVec 16) : BitVec 16 := if c.msb then (c <<< 1) ^^^ 0x1021 else c <<< 1

def crc16Byte (c : BitVec 16) (b : Byte) : BitVec 16 := eightTimes crc16Bit (c ^^^ (b.setWidth 16 <<< 8))

/-- The CRC-16 of a link frame: initial value 0xFFFF, no reflection and no final inversion (R181). -/
def crc16 (bytes : List Byte) : BitVec 16 := bytes.foldl crc16Byte 0xFFFF

/-- One bit of the reflected CRC-32 with polynomial 0x04C11DB7, written reflected as 0xEDB88320 (R16). -/
def crc32Bit (c : BitVec 32) : BitVec 32 := if c.getLsbD 0 then (c >>> 1) ^^^ 0xEDB88320 else c >>> 1

def crc32Byte (c : BitVec 32) (b : Byte) : BitVec 32 := eightTimes crc32Bit (c ^^^ b.setWidth 32)

/-- The CRC-32 of a store area: initial value and final inversion 0xFFFFFFFF, input and output reflected (R16). -/
def crc32 (bytes : List Byte) : BitVec 32 := bytes.foldl crc32Byte 0xFFFFFFFF ^^^ 0xFFFFFFFF

/-! ## Items -/

def u8 (n : Nat) : Item := ⟨1, n⟩
def u16 (n : Nat) : Item := ⟨2, n⟩
def u32 (n : Nat) : Item := ⟨4, n⟩

/-- Yes or no: 1 or 0 (R184). -/
def yesNo (b : Bool) : Item := u8 b.toNat

/-- An item that may be absent: none is all ones in the item's width (R184). -/
def opt8 (o : Option Nat) : Item := u8 (o.getD 255)
def opt16 (o : Option Nat) : Item := u16 (o.getD 65535)
def opt32 (o : Option Nat) : Item := u32 (o.getD 4294967295)

/-- A list: a count byte, then the items (R184). -/
def listOf {α : Type} (f : α → List Item) (l : List α) : List Item := u8 l.length :: l.flatMap f

/-- The bytes of a number, most significant first (R181, R184). -/
def numBytes (width n : Nat) : List Byte :=
  match width with
  | 0 => []
  | k + 1 => BitVec.ofNat 8 (n / 256 ^ k) :: numBytes k n

def itemBytes (items : List Item) : List Byte := items.flatMap fun i => numBytes i.width i.value

/-! ## Link frames -/

/-- A link frame: marker, length, kind, tag, body, CRC-16 over all before it, sent most significant byte first (R181,
section 10.8). -/
def linkFrame (marker : Byte) (kind tag : Nat) (body : List Byte) : List Byte :=
  let front := marker :: BitVec.ofNat 8 body.length :: BitVec.ofNat 8 kind :: BitVec.ofNat 8 tag :: body
  front ++ numBytes 2 (crc16 front).toNat

/-- The code of an outcome: its place in the table of R189. -/
def Out.code : Out → Nat
  | .done => 0
  | .accepted => 1
  | .busy => 2
  | .starting => 3
  | .notPermitted => 4
  | .unknownRequest => 5
  | .badLength => 6
  | .badIndex => 7
  | .outOfRange => 8
  | .listFull => 9
  | .tableFull => 10
  | .inUse => 11
  | .incidentsActive => 12
  | .mixedStage => 13
  | .wrongState => 14
  | .staleTag => 15
  | .sameLink => 16
  | .inZone => 17
  | .disused => 18
  | .moving => 19
  | .locked => 20
  | .notOwner => 21
  | .stale => 22
  | .storeFault => 23

/-- The items of an attention summary: slot, tag and incident flag word an entry (section 10.8). -/
def summaryItems (entries : List Summary) : List Item :=
  listOf (fun e => [u8 e.slot.val, opt16 e.tag, u16 e.flags.toNat]) entries

/-- The bytes of a frame the module transmits: a reply echoes kind and tag and opens its body with the outcome; a notice
carries kind 0, tag 0, the device flag word and the summary (R181, R189, section 10.8). -/
def OutFrame.bytes : OutFrame → List Byte
  | .reply r => linkFrame 0x5A r.kind r.tag (itemBytes (u8 r.outcome.code :: r.items))
  | .notice d es => linkFrame 0x5C 0 0 (itemBytes (u8 d.toNat :: summaryItems es))

/-! ## The receiver -/

/-- What reaches a receiver (R182): the request marker, another byte, a length byte above 240, the last byte of a frame
with its CRC-16 good or bad, or an idle gap. -/
inductive RxEvent where
  | marker
  | byte
  | badLength
  | goodEnd
  | badEnd
  | gap
  deriving DecidableEq, Repr

/-- The table of R182: the next state, and whether a frame is counted as discarded. -/
def rxNext : Rx → RxEvent → Rx × Bool
  | .idle, .marker => (.receiving, false)
  | .idle, .gap => (.idle, false)
  | .idle, _ => (.discarding, true)
  | .receiving, .badLength => (.discarding, true)
  | .receiving, .goodEnd => (.idle, false)
  | .receiving, .badEnd => (.discarding, true)
  | .receiving, .gap => (.idle, true)
  | .receiving, _ => (.receiving, false)
  | .discarding, .gap => (.idle, false)
  | .discarding, _ => (.discarding, false)

/-- The receiver after some events, and how many frames it has counted as discarded. -/
def rxRun (r : Rx) (events : List RxEvent) : Rx × Nat :=
  events.foldl (fun (r, n) e => let (r', c) := rxNext r e; (r', n + c.toNat)) (r, 0)

/-- What the bytes of one frame are to a receiver that stands at IDLE (R181, R182). -/
def frameEvents : List Byte → List RxEvent
  | [] => []
  | m :: rest =>
    if m ≠ 0xA5 then [.byte]
    else match rest with
      | [] => [.marker]
      | len :: _ =>
        if len.toNat > Config.maxBody then [.marker, .badLength]
        else if rest.length < len.toNat + 5 then [.marker]
        else
          let front := (m :: rest).take (len.toNat + 4)
          let crc := ((m :: rest).drop (len.toNat + 4)).take 2
          if crc = numBytes 2 (crc16 front).toNat then [.marker, .goodEnd] else [.marker, .badEnd]

/-- What a request frame of a request row is to a receiver: its CRC-16 is good; a length byte above 240 is refused by
the receiver itself (R182). -/
def requestEvents (len : Nat) : List RxEvent :=
  if len > Config.maxBody then [.marker, .badLength] else [.marker, .goodEnd]

/-! ## Line frames -/

/-- The command code of a transaction kind (R23); a reply has the top bit set. -/
def TxnKind.code : TxnKind → Byte
  | .query => 0x01
  | .move => 0x02
  | .stop => 0x03
  | .sample => 0x04

/-- A line frame: address, kind, body, CRC-8 over them (R23). -/
def lineFrame (addr : Nat) (kind : Byte) (body : List Byte) : List Byte :=
  let front := BitVec.ofNat 8 addr :: kind :: body
  front ++ [crc8 front]

/-- The command frames: a MOVE carries its target in 2 bytes and its speed in 1, the others carry no body (R23). -/
def moveFrame (addr target speed : Nat) : List Byte :=
  lineFrame addr TxnKind.move.code (numBytes 2 target ++ numBytes 1 speed)

def bareFrame (addr : Nat) (kind : TxnKind) : List Byte := lineFrame addr kind.code []

end Sys2Proof.Machine
end

