-- ==== Sys2Proof/Machine/Operands.lean ====
section
/-! DEFINITION. How the items of a request are read and how the items of a reply are written (R184): the code of an
enumeration is the place of its value in the table that lists it, from 0; a code that names no value reads as none,
and the owning rule then refuses OUT_OF_RANGE. Also the body length that the items of each request give (R185
test 4). -/

namespace Sys2Proof.Machine

open Sys2Proof

/-! ## Enumerations read from a request -/

def segUse? : Nat → Option SegUse
  | 0 => some .inService
  | 1 => some .disused
  | _ => none

def protection? : Nat → Option Protection
  | 0 => some .none
  | 1 => some .hydrant
  | 2 => some .critical
  | _ => none

def normalPos? : Nat → Option NormalPos
  | 0 => some .opened
  | 1 => some .closed
  | _ => none

def serviceMark? : Nat → Option ServiceMark
  | 0 => some .inService
  | 1 => some .inoperable
  | _ => none

def stage? : Nat → Option Stage
  | 0 => some .off
  | 1 => some .valve
  | 2 => some .plan
  | _ => none

def compare? : Nat → Option Compare
  | 0 => some .equal
  | 1 => some .notEqual
  | 2 => some .inRange
  | 3 => some .outOfRange
  | _ => none

def class? : Nat → Option Class
  | 0 => some .normal
  | 1 => some .slow
  | 2 => some .gentle
  | _ => none

def prioMode? : Nat → Option PrioMode
  | 0 => some .keep
  | 1 => some .raise
  | 2 => some .lower
  | 3 => some .set
  | _ => none

def yesNo? : Nat → Option Bool
  | 0 => some false
  | 1 => some true
  | _ => none

def link? : Nat → Option Link
  | 0 => some .A
  | 1 => some .B
  | 2 => some .S
  | _ => none

/-! ## Enumerations written into a reply -/

def SegUse.code : SegUse → Nat
  | .inService => 0
  | .disused => 1

/-- NONE 0, HYDRANT 1, CRITICAL 2: also the value of the tests SIDE_PROTECTION and AFFECTED_PROTECTION (R86, R111). -/
def Protection.code : Protection → Nat
  | .none => 0
  | .hydrant => 1
  | .critical => 2

def NormalPos.code : NormalPos → Nat
  | .opened => 0
  | .closed => 1

def ServiceMark.code : ServiceMark → Nat
  | .inService => 0
  | .inoperable => 1

def MotionState.code : MotionState → Nat
  | .atRest => 0
  | .closeRun => 1
  | .closeWait => 2
  | .closeSlow => 3
  | .openWait => 4
  | .openSlow => 5
  | .openRun => 6
  | .stopping => 7
  | .stuck => 8
  | .unresponsive => 9
  | .localMode => 10

def PosStatus.code : PosStatus → Nat
  | .unknown => 0
  | .fresh => 1
  | .stale => 2

/-- The link's code, also the value of the test OPENER_LINK (R86). -/
def linkCode : Link → Nat
  | .A => 0
  | .B => 1
  | .S => 2

def LineState.code : LineState → Nat
  | .running => 0
  | .stopping => 1
  | .stopped => 2

def GuardState.code : GuardState → Nat
  | .clear => 0
  | .guarded => 1

def Stage.code : Stage → Nat
  | .off => 0
  | .valve => 1
  | .plan => 2

def Compare.code : Compare → Nat
  | .equal => 0
  | .notEqual => 1
  | .inRange => 2
  | .outOfRange => 3

/-- NORMAL 0, SLOW 1, GENTLE 2: the order of strictness too (R118). -/
def Class.code : Class → Nat
  | .normal => 0
  | .slow => 1
  | .gentle => 2

def PrioMode.code : PrioMode → Nat
  | .keep => 0
  | .raise => 1
  | .lower => 2
  | .set => 3

def Role.code : Role → Nat
  | .boundary => 0
  | .interior => 1

def StepState.code : StepState → Nat
  | .waiting => 0
  | .moving => 1
  | .shadow => 2
  | .closed => 3
  | .skipped => 4
  | .failed => 5
  | .reopened => 6
  | .retained => 7

def CompKind.code : CompKind → Nat
  | .first => 0
  | .replan => 1

/-- The reasons in the order in which R93 names them; no table lists them (log 12). -/
def FailReason.code : FailReason → Nat
  | .zoneLimit => 0
  | .stepLimit => 1
  | .exclusionsFull => 2

def IncState.code : IncState → Nat
  | .free => 0
  | .planning => 1
  | .awaitingConcurrence => 2
  | .closing => 3
  | .replanning => 4
  | .held => 5
  | .isolated => 6
  | .confirmed => 7
  | .leakThrough => 8
  | .planFailed => 9
  | .restoring => 10

def HeldFrom.code : HeldFrom → Nat
  | .closing => 0
  | .restoring => 1

def DevState.code : DevState → Nat
  | .starting => 0
  | .running => 1

/-! ## Flag words -/

/-- Whether a word of incident kinds names only kinds that exist (bits 0 to 12, section 10.8). -/
def incWordOk (w : Nat) : Bool := decide (w < 8192)

/-- Whether a word of device kinds names only kinds that exist (bits 0 to 5). -/
def devWordOk (w : Nat) : Bool := decide (w < 64)

/-! ## Requests: codes and body lengths -/

end Sys2Proof.Machine

namespace Sys2Proof

/-- The request code of a row that is a request, its place in the table of R190; `unknownRequest` carries its own. -/
def Instr.code? : Instr → Option Nat
  | .reset => none
  | .readDevice _ => some 1
  | .readSeg _ _ => some 2
  | .readValve _ _ => some 3
  | .readZone _ _ => some 4
  | .readPoint _ _ => some 5
  | .readLine _ _ _ => some 6
  | .readPolicy _ _ _ => some 7
  | .readIncident _ _ => some 8
  | .readPlan _ _ _ _ _ => some 9
  | .readLocks _ _ => some 10
  | .readAttention _ => some 11
  | .readLink _ _ => some 12
  | .segPut _ _ _ _ _ _ _ _ _ => some 13
  | .segDrop _ _ => some 14
  | .valvePut _ _ _ _ _ _ _ _ _ _ _ _ _ => some 15
  | .valveDrop _ _ => some 16
  | .zonePut _ _ _ _ _ _ => some 17
  | .feedSet _ _ => some 18
  | .pointPut _ _ _ _ _ _ => some 19
  | .rulePut _ _ _ _ _ _ _ _ _ _ _ _ => some 20
  | .groupPut _ _ _ _ _ => some 21
  | .modelStore _ => some 22
  | .grantMode _ _ _ _ => some 23
  | .lineStop _ _ => some 24
  | .lineStart _ _ => some 25
  | .mark _ _ _ => some 26
  | .lock _ _ => some 27
  | .unlock _ _ _ => some 28
  | .release _ _ => some 29
  | .openInc _ _ _ => some 30
  | .concur _ _ _ => some 31
  | .withdraw _ _ _ => some 32
  | .hold _ _ _ => some 33
  | .resume _ _ _ => some 34
  | .extend _ _ _ _ => some 35
  | .confirm _ _ _ => some 36
  | .restore _ _ _ => some 37
  | .abandon _ _ _ => some 38
  | .noticeMask _ _ _ _ => some 39
  | .ack _ _ _ _ => some 40
  | .unknownRequest _ k => some k
  | .discardedFrame _ _ => none
  | .idleGap _ _ => none
  | .transmissionEnd _ => none
  | .imageWriteEnd _ _ => none
  | .lockAreaWriteEnd _ _ => none
  | .computationEnd => none
  | .report _ _ _ _ => none
  | .moveReply _ _ _ => none
  | .stopReply _ _ _ => none
  | .sampleReply _ _ _ _ => none
  | .miss _ => none
  | .motionTimerExpiry _ _ => none
  | .stopTimerExpiry _ _ => none
  | .confirmationTimerExpiry _ => none

open Machine in
/-- The items of a request, each in its width, in the order its owning chapter lists them (R184, R190). Widths and codes that R184
leaves open are the model's choice, the 1 byte of ZONE_PUT's drained threshold and the flag word of an ACK, 1 byte for DEVICE and 2
for every other target, a slot or not, among them (log 12). -/
def Instr.items : Instr → List Item
  | .reset => []
  | .readDevice _ => []
  | .readSeg _ n => [u16 n]
  | .readValve _ v => [u16 v]
  | .readZone _ z => [u8 z]
  | .readPoint _ p => [u8 p]
  | .readLine _ l a => [u8 l, u8 a]
  | .readPolicy _ t i => [u8 t, u8 i]
  | .readIncident _ i => [u8 i]
  | .readPlan _ i t p n => [u8 i, u16 t, u8 p, u8 n]
  | .readLocks _ n => [u8 n]
  | .readAttention _ => []
  | .readLink _ k => [u8 k]
  | .segPut _ n use z len cel rat dia pro => [u16 n, u8 use, u8 z, u16 len, u16 cel, u16 rat, u16 dia, u8 pro]
  | .segDrop _ n => [u16 n]
  | .valvePut _ v a b l ad sz tu mx mn ve no mk =>
    [u16 v, u16 a, u16 b, u8 l, u8 ad, u16 sz, u16 tu, u8 mx, u8 mn, u16 ve, u8 no, u8 mk]
  | .valveDrop _ v => [u16 v]
  | .zonePut _ z no dr wi al => [u8 z, u16 no, u8 dr, u16 wi, u8 al]
  | .feedSet _ l => listOf (fun n => [u16 n]) l
  | .pointPut _ p as n l ad => [u8 p, u8 as, u16 n, u8 l, u8 ad]
  | .rulePut _ r st te cm lo hi ex cl co mo va =>
    [u8 r, u8 st, u8 te, u8 cm, u16 lo, u16 hi, u8 ex, u8 cl, u8 co, u8 mo, u8 va]
  | .groupPut _ g en ms le => [u8 g, u8 en] ++ listOf (fun n => [u8 n]) ms ++ [u8 le]
  | .modelStore _ => []
  | .grantMode _ m i t => if m = 2 then [u8 m, u8 i, u16 t] else [u8 m]
  | .lineStop _ l => [u8 l]
  | .lineStart _ l => [u8 l]
  | .mark _ vs m => listOf (fun n => [u16 n]) vs ++ [u8 m]
  | .lock _ v => [u16 v]
  | .unlock _ v f => [u16 v, u8 f]
  | .release _ v => [u16 v]
  | .openInc _ n p => [u16 n, u8 p]
  | .concur _ i t => [u8 i, u16 t]
  | .withdraw _ i t => [u8 i, u16 t]
  | .hold _ i t => [u8 i, u16 t]
  | .resume _ i t => [u8 i, u16 t]
  | .extend _ i t vs => [u8 i, u16 t] ++ listOf (fun n => [u16 n]) vs
  | .confirm _ i t => [u8 i, u16 t]
  | .restore _ i t => [u8 i, u16 t]
  | .abandon _ i t => [u8 i, u16 t]
  | .noticeMask _ a b v => [u16 a, u8 b, u8 v]
  | .ack _ g t f => if g = 255 then [u8 g, u16 t, u8 f] else [u8 g, u16 t, u16 f]
  | .unknownRequest _ _ => []
  | .discardedFrame _ _ => []
  | .idleGap _ _ => []
  | .transmissionEnd _ => []
  | .imageWriteEnd _ _ => []
  | .lockAreaWriteEnd _ _ => []
  | .computationEnd => []
  | .report _ _ _ _ => []
  | .moveReply _ _ _ => []
  | .stopReply _ _ _ => []
  | .sampleReply _ _ _ _ => []
  | .miss _ => []
  | .motionTimerExpiry _ _ => []
  | .stopTimerExpiry _ _ => []
  | .confirmationTimerExpiry _ => []

/-- The body length that a request's items give, with the counts it carries (R185 test 4). -/
def Instr.bodyLen (i : Instr) : Nat := (i.items.map Machine.Item.width).sum

/-- The frame of a request, as its master sends it (R181). -/
def Instr.frame (i : Instr) : List Byte :=
  Machine.linkFrame 0xA5 (i.code?.getD 0) ((i.hdr?.map Hdr.tag).getD 0) (Machine.itemBytes i.items)

end Sys2Proof
end

