-- ==== Sys2Proof/WellFormed.lean ====
section
/-! DEFINITION. Well-formed commands: what can reach the part. A request's items fit the widths R184 gives them and its
header fits the bytes of R181; an event carries what the wire or the block that raises it can carry. -/

namespace Sys2Proof

open Machine

/-- An item's value fits its width (R184). -/
def Machine.Item.fits (i : Item) : Bool := decide (i.value < 256 ^ i.width)

/-- The header of a request frame (R181): a tag of one byte and a length byte. -/
def Hdr.wellFormed (h : Hdr) : Bool := decide (h.tag < 256) && decide (h.len < 256)

/-- A node address of an actuator or of a sensor (R23). -/
def actuatorAddr (a : Nat) : Bool := decide (1 ≤ a) && decide (a ≤ 192)
def sensorAddr (a : Nat) : Bool := decide (200 ≤ a) && decide (a ≤ 231)

/-- A request: its header and its items fit; one of unknown kind has a kind that R190 does not list, and GRANT_MODE carries a
slot and a tag for PREFERRED only (R162). -/
def Instr.requestWf (i : Instr) (h : Hdr) : Bool := h.wellFormed && i.items.all Item.fits

/-- Whether a command can reach the part. -/
def Instr.wellFormed (i : Instr) : Bool :=
  match i with
  | .reset => true
  | .readDevice h => i.requestWf h
  | .readSeg h _ => i.requestWf h
  | .readValve h _ => i.requestWf h
  | .readZone h _ => i.requestWf h
  | .readPoint h _ => i.requestWf h
  | .readLine h _ _ => i.requestWf h
  | .readPolicy h _ _ => i.requestWf h
  | .readIncident h _ => i.requestWf h
  | .readPlan h _ _ _ _ => i.requestWf h
  | .readLocks h _ => i.requestWf h
  | .readAttention h => i.requestWf h
  | .readLink h _ => i.requestWf h
  | .segPut h _ _ _ _ _ _ _ _ => i.requestWf h
  | .segDrop h _ => i.requestWf h
  | .valvePut h _ _ _ _ _ _ _ _ _ _ _ _ => i.requestWf h
  | .valveDrop h _ => i.requestWf h
  | .zonePut h _ _ _ _ _ => i.requestWf h
  | .feedSet h _ => i.requestWf h
  | .pointPut h _ _ _ _ _ => i.requestWf h
  | .rulePut h _ _ _ _ _ _ _ _ _ _ _ => i.requestWf h
  | .groupPut h _ _ _ _ => i.requestWf h
  | .modelStore h => i.requestWf h
  | .grantMode h m slot tag => i.requestWf h && (decide (m = 2) || (decide (slot = 0) && decide (tag = 0)))
  | .lineStop h _ => i.requestWf h
  | .lineStart h _ => i.requestWf h
  | .mark h _ _ => i.requestWf h
  | .lock h _ => i.requestWf h
  | .unlock h _ _ => i.requestWf h
  | .release h _ => i.requestWf h
  | .openInc h _ _ => i.requestWf h
  | .concur h _ _ => i.requestWf h
  | .withdraw h _ _ => i.requestWf h
  | .hold h _ _ => i.requestWf h
  | .resume h _ _ => i.requestWf h
  | .extend h _ _ _ => i.requestWf h
  | .confirm h _ _ => i.requestWf h
  | .restore h _ _ => i.requestWf h
  | .abandon h _ _ => i.requestWf h
  | .noticeMask h _ _ _ => i.requestWf h
  | .ack h _ _ _ => i.requestWf h
  | .unknownRequest h k => h.wellFormed && decide (k < 256) && (decide (k = 0) || decide (40 < k))
  | .discardedFrame _ bytes =>
    decide (frameEvents bytes = [.byte]) || decide (frameEvents bytes = [.marker, .badLength]) ||
      decide (frameEvents bytes = [.marker, .badEnd])
  | .idleGap _ short => decide (frameEvents short = []) || decide (frameEvents short = [.marker])
  | .transmissionEnd _ => true
  | .imageWriteEnd _ _ => true
  | .lockAreaWriteEnd _ _ => true
  | .computationEnd => true
  | .report _ a p _ => actuatorAddr a && decide (p ≤ 1500)
  | .moveReply _ a r => actuatorAddr a && decide (r ≤ 2)
  | .stopReply _ a r => actuatorAddr a && decide (r = 0)
  | .sampleReply _ a p q => sensorAddr a && decide (p ≤ 2500) && decide (q ≤ 1)
  | .miss _ => true
  | .motionTimerExpiry _ _ => true
  | .stopTimerExpiry _ _ => true
  | .confirmationTimerExpiry _ => true

end Sys2Proof
end

