-- ==== Sys2Proof/Decode.lean ====
section
/-! DEFINITION. The commands that bytes spell. The opcode table gives no row any bits, so no table word spells a command;
a link's request frames (R181, R190) and a line's reply frames (R23) do. -/

namespace Sys2Proof

open Machine

/-- The command a table word spells: none, since no row of the table has bits. -/
def decodeTableWord (_nbits _w : Nat) : Option Instr := none

/-- A number of some width, most significant byte first, and what follows it. -/
def readNum : Nat → Nat → List Byte → Option (Nat × List Byte)
  | 0, acc, bytes => some (acc, bytes)
  | _ + 1, _, [] => none
  | k + 1, acc, b :: rest => readNum k (acc * 256 + b.toNat) rest

/-- Numbers of the widths given, and what follows them. -/
def readNums : List Nat → List Byte → Option (List Nat × List Byte)
  | [], bytes => some ([], bytes)
  | w :: ws, bytes =>
    match readNum w 0 bytes with
    | none => none
    | some (n, rest) => (readNums ws rest).map fun (l, tail) => (n :: l, tail)

/-- A whole body of numbers of the widths given. -/
def wholeNums (widths : List Nat) (body : List Byte) : Option (List Nat) :=
  match readNums widths body with
  | some (l, []) => some l
  | _ => none

/-- A list item: its count byte, then that many numbers of one width; and what follows. -/
def readList (width : Nat) (body : List Byte) : Option (List Nat × List Byte) :=
  match readNum 1 0 body with
  | none => none
  | some (n, rest) => readNums (List.replicate n width) rest

/-- A request whose body is numbers of the widths given. -/
def plainBody (widths : List Nat) (body : List Byte) (f : List Nat → Option Instr) : Option Instr :=
  (wholeNums widths body).bind f

/-- A request whose body is numbers, a list, and numbers. -/
def listBody (before : List Nat) (width : Nat) (after : List Nat) (body : List Byte)
    (f : List Nat → List Nat → List Nat → Option Instr) : Option Instr :=
  match readNums before body with
  | none => none
  | some (a, rest) =>
    match readList width rest with
    | none => none
    | some (l, tail) => (wholeNums after tail).bind (f a l)

/-- A request of one slot and one tag. -/
def slotTag (body : List Byte) (f : Nat → Nat → Instr) : Option Instr :=
  plainBody [1, 2] body fun
    | [i, t] => some (f i t)
    | _ => none

/-- The request of a kind with a body (R184, R190). -/
def decodeBody (h : Hdr) (kind : Nat) (body : List Byte) : Option Instr :=
  match kind with
  | 1 => plainBody [] body fun _ => some (.readDevice h)
  | 2 => plainBody [2] body fun
    | [n] => some (.readSeg h n)
    | _ => none
  | 3 => plainBody [2] body fun
    | [v] => some (.readValve h v)
    | _ => none
  | 4 => plainBody [1] body fun
    | [z] => some (.readZone h z)
    | _ => none
  | 5 => plainBody [1] body fun
    | [p] => some (.readPoint h p)
    | _ => none
  | 6 => plainBody [1, 1] body fun
    | [l, a] => some (.readLine h l a)
    | _ => none
  | 7 => plainBody [1, 1] body fun
    | [t, i] => some (.readPolicy h t i)
    | _ => none
  | 8 => plainBody [1] body fun
    | [i] => some (.readIncident h i)
    | _ => none
  | 9 => plainBody [1, 2, 1, 1] body fun
    | [i, t, p, n] => some (.readPlan h i t p n)
    | _ => none
  | 10 => plainBody [1] body fun
    | [n] => some (.readLocks h n)
    | _ => none
  | 11 => plainBody [] body fun _ => some (.readAttention h)
  | 12 => plainBody [1] body fun
    | [k] => some (.readLink h k)
    | _ => none
  | 13 => plainBody [2, 1, 1, 2, 2, 2, 2, 1] body fun
    | [n, u, z, len, cel, rat, dia, pro] => some (.segPut h n u z len cel rat dia pro)
    | _ => none
  | 14 => plainBody [2] body fun
    | [n] => some (.segDrop h n)
    | _ => none
  | 15 => plainBody [2, 2, 2, 1, 1, 2, 2, 1, 1, 2, 1, 1] body fun
    | [v, a, b, l, ad, sz, tu, mx, mn, ve, no, mk] => some (.valvePut h v a b l ad sz tu mx mn ve no mk)
    | _ => none
  | 16 => plainBody [2] body fun
    | [v] => some (.valveDrop h v)
    | _ => none
  | 17 => plainBody [1, 2, 1, 2, 1] body fun
    | [z, no, dr, wi, al] => some (.zonePut h z no dr wi al)
    | _ => none
  | 18 => listBody [] 2 [] body fun _ l _ => some (.feedSet h l)
  | 19 => plainBody [1, 1, 2, 1, 1] body fun
    | [p, as, n, l, ad] => some (.pointPut h p as n l ad)
    | _ => none
  | 20 => plainBody [1, 1, 1, 1, 2, 2, 1, 1, 1, 1, 1] body fun
    | [r, st, te, cm, lo, hi, ex, cl, co, mo, va] => some (.rulePut h r st te cm lo hi ex cl co mo va)
    | _ => none
  | 21 => listBody [1, 1] 1 [1] body fun a l b =>
    match a, b with
    | [g, en], [le] => some (.groupPut h g en l le)
    | _, _ => none
  | 22 => plainBody [] body fun _ => some (.modelStore h)
  | 23 =>
    match wholeNums [1, 1, 2] body with
    | some [m, i, t] => if m = 2 then some (.grantMode h m i t) else none
    | _ => plainBody [1] body fun
      | [m] => if m = 2 then none else some (.grantMode h m 0 0)
      | _ => none
  | 24 => plainBody [1] body fun
    | [l] => some (.lineStop h l)
    | _ => none
  | 25 => plainBody [1] body fun
    | [l] => some (.lineStart h l)
    | _ => none
  | 26 => listBody [] 2 [1] body fun _ vs b =>
    match b with
    | [m] => some (.mark h vs m)
    | _ => none
  | 27 => plainBody [2] body fun
    | [v] => some (.lock h v)
    | _ => none
  | 28 => plainBody [2, 1] body fun
    | [v, f] => some (.unlock h v f)
    | _ => none
  | 29 => plainBody [2] body fun
    | [v] => some (.release h v)
    | _ => none
  | 30 => plainBody [2, 1] body fun
    | [n, p] => some (.openInc h n p)
    | _ => none
  | 31 => slotTag body (.concur h)
  | 32 => slotTag body (.withdraw h)
  | 33 => slotTag body (.hold h)
  | 34 => slotTag body (.resume h)
  | 35 => listBody [1, 2] 2 [] body fun a vs _ =>
    match a with
    | [i, t] => some (.extend h i t vs)
    | _ => none
  | 36 => slotTag body (.confirm h)
  | 37 => slotTag body (.restore h)
  | 38 => slotTag body (.abandon h)
  | 39 => plainBody [2, 1, 1] body fun
    | [a, b, v] => some (.noticeMask h a b v)
    | _ => none
  | 40 =>
    match readNum 1 0 body with
    | none => none
    | some (g, rest) =>
      plainBody (if g = 255 then [2, 1] else [2, 2]) rest fun
        | [t, f] => some (.ack h g t f)
        | _ => none
  | k => some (.unknownRequest h k)

/-- The request that a frame on a link spells (R181): marker 0xA5, a length of at most 240 that fits, a good CRC-16, and
a body that fits its kind's items. -/
def decodeRequest (link : Link) (bytes : List Byte) : Option Instr :=
  match bytes with
  | m :: len :: kind :: tag :: rest =>
    let body := rest.take len.toNat
    if m = 0xA5 ∧ len.toNat ≤ Config.maxBody ∧ rest.length = len.toNat + 2 ∧
        rest.drop len.toNat = numBytes 2 (crc16 (m :: len :: kind :: tag :: body)).toNat then
      decodeBody { link := link, tag := tag.toNat, len := len.toNat } kind.toNat body
    else none
  | _ => none

/-- The reply frame of a node for a line reply (R23). -/
def Instr.replyFrame : Instr → Option (List Byte)
  | .report _ a p st => some (lineFrame a 0x81 (numBytes 2 p ++ [st]))
  | .moveReply _ a r => some (lineFrame a 0x82 (numBytes 1 r))
  | .stopReply _ a r => some (lineFrame a 0x83 (numBytes 1 r))
  | .sampleReply _ a p q => some (lineFrame a 0x84 (numBytes 2 p ++ numBytes 1 q))
  | _ => none

/-- The reply that a frame on a line spells (R23): its body has its kind's length and its CRC-8 checks. -/
def decodeReply (line : Fin 4) (bytes : List Byte) : Option Instr :=
  match bytes with
  | [a, 0x81, p1, p0, st, c] =>
    if c = crc8 [a, 0x81, p1, p0, st] then some (.report line a.toNat (p1.toNat * 256 + p0.toNat) st) else none
  | [a, 0x82, r, c] => if c = crc8 [a, 0x82, r] then some (.moveReply line a.toNat r.toNat) else none
  | [a, 0x83, r, c] => if c = crc8 [a, 0x83, r] then some (.stopReply line a.toNat r.toNat) else none
  | [a, 0x84, p1, p0, q, c] =>
    if c = crc8 [a, 0x84, p1, p0, q] then some (.sampleReply line a.toNat (p1.toNat * 256 + p0.toNat) q.toNat) else none
  | _ => none

end Sys2Proof
end

