-- ==== Sys2Proof/Machine/Flags.lean ====
section
/-! DEFINITION. Attention: the flag kinds, how a link port takes a raised flag (R195, R196), the summary and ATTN
(R197), and the transmitter that sends replies and notices (R187, R198). -/

namespace Sys2Proof.Machine

open Sys2Proof

/-- The incident flag kinds (R156), in the order of their bits (section 10.8). -/
inductive IncFlag where
  | planned
  | planFailed
  | concurrenceNeeded
  | isolated
  | confirmed
  | leakThrough
  | unmonitored
  | stepFailed
  | surgeEvent
  | openEdge
  | strandsProtected
  | restored
  | ended
  deriving DecidableEq, Repr

/-- The bit of a kind in the incident flag word (section 10.8). -/
def IncFlag.bit : IncFlag → IncWord
  | .planned => 0x0001
  | .planFailed => 0x0002
  | .concurrenceNeeded => 0x0004
  | .isolated => 0x0008
  | .confirmed => 0x0010
  | .leakThrough => 0x0020
  | .unmonitored => 0x0040
  | .stepFailed => 0x0080
  | .surgeEvent => 0x0100
  | .openEdge => 0x0200
  | .strandsProtected => 0x0400
  | .restored => 0x0800
  | .ended => 0x1000

/-- The device flag kinds (R194), in the order of their bits. -/
inductive DevFlag where
  | orphansPresent
  | lineChange
  | lockChange
  | modelLost
  | locksLost
  | storeFault
  deriving DecidableEq, Repr

def DevFlag.bit : DevFlag → DevWord
  | .orphansPresent => 0x01
  | .lineChange => 0x02
  | .lockChange => 0x04
  | .modelLost => 0x08
  | .locksLost => 0x10
  | .storeFault => 0x20

/-- The copy a flag of tag `tag` is added to: emptied and given the tag where it held another tag or none (R195 step 2). -/
def Copy.forTag (c : Copy) (tag : Option Nat) : Copy := if c.tag = tag then c else { tag := tag, pending := 0 }

/-- A link port takes an incident flag (R195). -/
def Port.raiseInc (p : Port) (slot : Fin 16) (tag : Option Nat) (k : IncFlag) : Port :=
  if p.incMask &&& k.bit = 0 then p
  else
    let c := (p.copies.get slot).forTag tag
    { p with
      copies := p.copies.set slot { c with pending := c.pending ||| k.bit }
      noticePending := p.noticePending || decide (c.pending &&& k.bit = 0) }

/-- A link port takes a device flag (R196). -/
def Port.raiseDev (p : Port) (k : DevFlag) : Port :=
  if p.devMask &&& k.bit = 0 then p
  else
    { p with
      device := p.device ||| k.bit
      noticePending := p.noticePending || decide (p.device &&& k.bit = 0) }

/-- The attention summary of a link (R197). -/
def Port.summary (p : Port) : List Summary :=
  allSixteen.filterMap fun i =>
    let c := p.copies.get i
    if c.pending = 0 then none else some { slot := i, tag := c.tag, flags := c.pending }

/-- The ATTN output of a link: asserted while the summary has an entry or a device flag is pending (R197). -/
def Port.attn (p : Port) : Bool := !p.summary.isEmpty || decide (p.device ≠ 0)

/-- The transmitter, when it is free, sends the oldest queued reply; when none waits and a notice is pending, it
composes the notice and sends it (R187, R198). A reply whose transmission begins leaves the reply queue, so it no longer counts among
those made and not yet sent (log 6). -/
def Port.kick (p : Port) : Port :=
  match p.sending with
  | some _ => p
  | none =>
    match p.replies with
    | r :: rest => { p with sending := some (.reply r), replies := rest }
    | [] =>
      if p.noticePending then
        { p with sending := some (.notice p.device p.summary), noticePending := false }
      else p

/-- A made reply joins the tail of the reply queue, and the transmitter goes on (R187). -/
def Port.post (p : Port) (r : Reply) : Port := ({ p with replies := p.replies ++ [r] } : Port).kick

/-! ## The ports of the machine -/

/-- The port of a link. -/
def State.port (s : State) : Link → Port
  | .A => s.portA
  | .B => s.portB
  | .S => s.portS

/-- Change the port of a link. -/
def State.modPort (s : State) (l : Link) (f : Port → Port) : State :=
  match l with
  | .A => { s with portA := f s.portA }
  | .B => { s with portB := f s.portB }
  | .S => { s with portS := f s.portS }

/-- Change all three ports. -/
def State.modPorts (s : State) (f : Port → Port) : State :=
  { s with portA := f s.portA, portB := f s.portB, portS := f s.portS }

/-- Every link's transmitter goes on (R187). -/
def State.kickPorts (s : State) : State := s.modPorts Port.kick

/-- A block raises a device flag (R196). -/
def State.raiseDev (s : State) (k : DevFlag) : State := s.modPorts (·.raiseDev k)

/-- An incident raises a flag: its record keeps the kind, and the three link ports take it with the slot and serial
tag (R156). -/
def State.raiseInc (s : State) (i : Fin 16) (k : IncFlag) : State :=
  let inc := s.incidents.get i
  let s := { s with incidents := s.incidents.set i { inc with flags := inc.flags ||| k.bit } }
  s.modPorts (·.raiseInc i inc.tag k)

/-- Raise some kinds in order. -/
def State.raiseIncs (s : State) (i : Fin 16) (ks : List IncFlag) : State := ks.foldl (·.raiseInc i ·) s

end Sys2Proof.Machine
end

