-- ==== Sys2Proof/Machine/Ops.lean ====
section
/-! DEFINITION. The named operations every command is written over: reading and writing the tables, the motion that
holds a slot for a valve (its mover), and how a request is admitted and answered (R182, R185 to R189). -/

namespace Sys2Proof.Machine

open Sys2Proof

/-- What a command gives: the machine's own next state, or a stop. -/
abbrev Res := Host.Outcome State Fault Refusal

/-! ## Reading and writing the tables -/

def State.seg? (s : State) (n : Nat) : Option Seg := tabGet s.segs n
def State.valve? (s : State) (v : Nat) : Option Valve := tabGet s.valves v
def State.point? (s : State) (p : Nat) : Option Point := tabGet s.points p
def State.inc (s : State) (i : Fin 16) : Incident := s.incidents.get i
def State.line (s : State) (l : Fin 4) : Line := s.lines.get l
def State.zone (s : State) (z : Fin 8) : Zone := s.zones.get z

def State.modSeg (s : State) (n : Nat) (f : Seg → Seg) : State := { s with segs := tabMod s.segs n f }
def State.modValve (s : State) (v : Nat) (f : Valve → Valve) : State := { s with valves := tabMod s.valves v f }
def State.modPoint (s : State) (p : Nat) (f : Point → Point) : State := { s with points := tabMod s.points p f }
def State.modInc (s : State) (i : Fin 16) (f : Incident → Incident) : State :=
  { s with incidents := s.incidents.set i (f (s.inc i)) }
def State.modLine (s : State) (l : Fin 4) (f : Line → Line) : State := { s with lines := s.lines.set l (f (s.line l)) }
def State.modZone (s : State) (z : Fin 8) (f : Zone → Zone) : State := { s with zones := s.zones.set z (f (s.zone z)) }

/-- Change a valve's volatile record. -/
def State.modVol (s : State) (v : Nat) (f : ValveVol → ValveVol) : State :=
  s.modValve v fun x => { x with vol := f x.vol }

/-- Set a valve's motion state. -/
def State.setMotion (s : State) (v : Nat) (m : MotionState) : State := s.modVol v fun x => { x with motion := m }

/-- A valve's motion state; an undefined valve counts as at rest. -/
def State.motion (s : State) (v : Nat) : MotionState := ((s.valve? v).map (·.vol.motion)).getD .atRest

/-- A valve's hold set. -/
def State.holds (s : State) (v : Nat) : List (Fin 16) := ((s.valve? v).map (·.vol.holds)).getD []

/-- A valve's accepted position, if it has one. -/
def State.accepted (s : State) (v : Nat) : Option Nat := (s.valve? v).bind (·.vol.accepted)

/-- The lock list's entry for a valve. -/
def State.lockOf (s : State) (v : Nat) : Option LockEntry := s.locks.find? (·.valve = v)

def State.isLocked (s : State) (v : Nat) : Bool := (s.lockOf v).isSome

/-- A valve's pressure zone: that of its side A segment, read when it is needed (R2). -/
def State.zoneOf (s : State) (v : Nat) : Fin 8 :=
  (((s.valve? v).bind fun x => s.seg? x.st.sideA).map (·.zone)).getD 0

/-- The slow-phase boundary b = ceil(turns / 4) (R103). -/
def slowBoundary (turns : Nat) : Nat := ceilDiv turns 4

/-! ## Motions -/

/-- The motion in a slot of a line. -/
def State.motionAt (s : State) (l j : Fin 4) : Option Motion := (s.line l).slots.get j

def State.setSlot (s : State) (l j : Fin 4) (m : Option Motion) : State :=
  s.modLine l fun x => { x with slots := x.slots.set j m }

/-- The slot of its line that a motion holds for a valve. -/
def Line.slotOf (x : Line) (v : Nat) : Option (Fin 4) :=
  allFour.find? fun j => match x.slots.get j with
    | some m => m.valve == v
    | none => false

/-- Where the mover of a valve stands: its line and slot, with the motion (R47). -/
def State.moverAt (s : State) (v : Nat) : Option (Fin 4 × Fin 4 × Motion) :=
  match s.valve? v with
  | none => none
  | some x =>
    match (s.line x.st.line).slotOf v with
    | none => none
    | some j => (s.motionAt x.st.line j).map fun m => (x.st.line, j, m)

/-- The mover of a valve (R47), or none. -/
def State.mover (s : State) (v : Nat) : Option Motion := (s.moverAt v).map (·.2.2)

def State.hasMover (s : State) (v : Nat) : Bool := (s.mover v).isSome

/-- The number of motion slots of a line that are held. -/
def Line.heldSlots (x : Line) : Nat := (allFour.filter fun j => (x.slots.get j).isSome).length

/-- The lowest-numbered free slot of a line (R159). -/
def Line.freeSlot (x : Line) : Option (Fin 4) := allFour.find? fun j => (x.slots.get j).isNone

/-- Every motion of the machine with its line and slot, line by line. -/
def State.allMotions (s : State) : List (Fin 4 × Fin 4 × Motion) :=
  allFour.flatMap fun l => allFour.filterMap fun j => (s.motionAt l j).map fun m => (l, j, m)

/-! ## Incidents -/

def Incident.inUse (x : Incident) : Bool := decide (x.state ≠ .free)

/-- Whether an incident slot is in the tenancy of a tag. -/
def State.tenancy (s : State) (i : Fin 16) (tag : Nat) : Bool :=
  (s.inc i).inUse && decide ((s.inc i).tag = some tag)

def State.anyInUse (s : State) : Bool := allSixteen.any fun i => (s.inc i).inUse

/-- The steps of an incident's plan; none without a plan. -/
def Incident.steps (x : Incident) : List Step := (x.plan.map (·.steps)).getD []

/-- An incident's step for a valve (a plan has one step a valve, R94). -/
def Incident.stepFor (x : Incident) (v : Nat) : Option Step := x.steps.find? (·.valve = v)

/-- The step number of a valve's step: its place in the list, from 1 (R95). -/
def Incident.stepNo (x : Incident) (v : Nat) : Option Nat := (x.steps.findIdx? (·.valve = v)).map (· + 1)

/-- Change the steps of a plan. -/
def Incident.modSteps (x : Incident) (f : List Step → List Step) : Incident :=
  { x with plan := x.plan.map fun p => { p with steps := f p.steps } }

/-- Change an incident's step for a valve. -/
def State.modStep (s : State) (i : Fin 16) (v : Nat) (f : Step → Step) : State :=
  s.modInc i fun x => x.modSteps fun l => l.map fun st => if st.valve = v then f st else st

/-- The zone of the plan an incident holds; none without a plan. -/
def Incident.zoneList (x : Incident) : List Nat := (x.plan.map (·.zone)).getD []

/-! ## Planner and store -/

/-- The planner is busy while its queue is non-empty or a computation is in progress (R73). -/
def State.plannerBusy (s : State) : Bool := !s.planner.queue.isEmpty || s.planner.comp.isSome

/-- An image write is in progress, or a MODEL_STORE waits for a lock-area write (R17, R18). -/
def State.imageWriting (s : State) : Bool :=
  (match s.store.active with
    | some (.image _ _) => true
    | _ => false) ||
  s.store.due.any fun
    | .image _ _ => true
    | .locks _ => false

/-! ## Requests -/

/-- Whether a link is a control link (R188). -/
def isControl : Link → Bool
  | .A => true
  | .B => true
  | .S => false

/-- The reply to the request that holds a link's slot is made: the slot is free at that moment and the reply joins the
reply queue (R186, R187, R189). -/
def State.reply (s : State) (l : Link) (o : Out) (items : List Item) : State :=
  s.modPort l fun p =>
    match p.slot with
    | none => p
    | some q => ({ p with slot := none } : Port).post { kind := q.code, tag := q.tag, outcome := o, items := items }

/-- A refusal: it carries no items (R189). -/
def State.refuse (s : State) (l : Link) (o : Out) : State := s.reply l o []

/-- A link's error count rises with the frames discarded, saturating (R183). -/
def countErrors (n k : Nat) : Nat := if k = 0 then n else min 65535 (n + k)

/-- A request frame reaches a link (R182): the receiver takes it from IDLE only; the admission tests of R185 follow in
order; a request that passes test 5 occupies the slot and is handed to its owning rule. -/
def State.admission (s : State) (h : Hdr) (code bodyLen : Nat) (right : Bool) (rule : State → State) : State :=
  let p := s.port h.link
  let (rx, n) := rxRun p.rx (requestEvents h.len)
  let s := s.modPort h.link fun p => { p with rx := rx, errors := countErrors p.errors n }
  let handed := decide (p.rx ≠ .discarding) && decide (h.len ≤ Config.maxBody)
  let refuse (o : Out) := s.modPort h.link (·.post { kind := code, tag := h.tag, outcome := o, items := [] })
  if !handed then s
  else if p.replies.length ≥ Config.maxReplies then
    s.modPort h.link fun p => { p with errors := countErrors p.errors 1 }
  else if p.slot.isSome then refuse .busy
  else if code = 0 ∨ code > 40 then refuse .unknownRequest
  else if h.len ≠ bodyLen then refuse .badLength
  else if !right then refuse .notPermitted
  else rule (s.modPort h.link fun p => { p with slot := some { code := code, tag := h.tag } })

/-- A request frame reaches its link and, admitted, its owning rule (R185). -/
def State.onRequest (s : State) (i : Instr) (h : Hdr) (right : Bool) (rule : State → State) : Res :=
  .next (s.admission h (i.code?.getD 0) i.bodyLen right rule)

/-- A rule that is refused STARTING while the device state is STARTING. -/
def State.unlessStarting (s : State) (l : Link) (rule : State → State) : State :=
  match s.device with
  | .starting => s.refuse l .starting
  | .running => rule s

/-- A rule of ordered tests: the first refusal is the reply, and a refused request changes nothing else; with none the
effect follows. -/
def State.tested (s : State) (l : Link) (refusal : Option Out) (effect : State → State) : State :=
  match refusal with
  | some o => s.refuse l o
  | none => effect s

/-- The first refusal of a list of tests made in order. -/
def firstRefusal (tests : List (Bool × Out)) : Option Out :=
  match tests with
  | [] => none
  | (failed, o) :: rest => if failed then some o else firstRefusal rest

end Sys2Proof.Machine
end

