-- ==== Sys2Proof/Machine/Timing.lean ====
section
/-! DEFINITION. The closure timing arithmetic (chapter 6). All quotients round as section 7.3 says: times and surge
quantities up, speeds down; every intermediate product is exact. -/

namespace Sys2Proof.Machine

open Sys2Proof

/-! ## The pure arithmetic -/

/-- The reflection time of one side, in ms (R98). -/
def reflection (x : Seg) : Nat := ceilDiv (2000 * x.length) x.celerity

/-- The governing side of a valve: the side with the larger reflection time, side A when they are equal or when side B
is EXTERNAL (R98). -/
def governing (a : Seg) (b : Option Seg) : Seg :=
  match b with
  | none => a
  | some y => if reflection a < reflection y then y else a

/-- The reflection time T_r of a valve (R98). -/
def reflectionTime (a : Seg) (b : Option Seg) : Nat := reflection (governing a b)

/-- The velocity change, in mm/s: the nominal velocity, doubled beside the burst, capped at 4,000 (R99). -/
def velocityChange (nominal : Nat) (atBurst : Bool) : Nat := min 4000 (if atBurst then 2 * nominal else nominal)

/-- The lowest rating among the sides (R100). -/
def lowestRating (a : Seg) (b : Option Seg) : Nat :=
  match b with
  | none => a.rating
  | some y => min a.rating y.rating

/-- The headroom in kPa, raised to 20 where it is less, and whether it was (R100). -/
def headroom (rating pressure : Nat) : Nat × Bool :=
  if rating < pressure + 20 then (20, true) else (rating - pressure, false)

/-- The abrupt rise P_j in kPa (R101). -/
def abruptRise (celerity velocity : Nat) : Nat := ceilDiv (celerity * velocity) 1000

/-- The factor of a closure class (R102). -/
def classFactor : Class → Nat
  | .normal => 1
  | .slow => 2
  | .gentle => 4

/-- The required slow-phase time T_req in ms (R102). -/
def requiredTime (tr rise head : Nat) (cls : Class) : Nat :=
  (if rise ≤ head then 0 else ceilDiv (tr * rise) head) * classFactor cls

/-- The slow speed in tpm, and whether the clamp to the min speed sets SURGE_RISK (R103). -/
def slowSpeed (turns minSpeed maxSpeed treq : Nat) : Nat × Bool :=
  if treq = 0 then (maxSpeed, false)
  else
    let unclamped := slowBoundary turns * 60000 / treq
    if unclamped > maxSpeed then (maxSpeed, false)
    else if unclamped < minSpeed then (minSpeed, true)
    else (unclamped, false)

/-- The phase time for `m` turns at `v` tpm, in ms, 0 for no turns (R104, R105). -/
def phaseTime (m v : Nat) : Nat := if m = 0 then 0 else ceilDiv (m * 60000) v

/-- The motion timeout of a MOVE, in ms (R105). -/
def motionTimeout (m v : Nat) : Nat := ceilDiv (phaseTime m v * 3) 2 + 10000

/-- The full computation (R97 to R104) from the records of the valve and its sides, the current pressure of the
governing side, whether a side is the burst segment, and the class. -/
def fullTiming (st : ValveStatic) (a : Seg) (b : Option Seg) (pressure : Nat) (atBurst : Bool) (cls : Class) :
    Figures :=
  let (head, low) := headroom (lowestRating a b) pressure
  let rise := abruptRise (governing a b).celerity (velocityChange st.velocity atBurst)
  let treq := requiredTime (reflectionTime a b) rise head cls
  let (slow, clamped) := slowSpeed st.turns st.minSpeed st.maxSpeed treq
  { slow := slow
    runEst := phaseTime (st.turns - slowBoundary st.turns) st.maxSpeed
    slowEst := phaseTime (slowBoundary st.turns) slow
    surgeRisk := low || clamped }

/-- Guard halving (R108): half the slow speed, not below the min speed, and the slow-phase estimate anew. -/
def halve (st : ValveStatic) (f : Figures) : Figures :=
  let half := f.slow / 2
  let slow := if half < st.minSpeed then st.minSpeed else half
  { f with
    slow := slow
    slowEst := phaseTime (slowBoundary st.turns) slow
    surgeRisk := f.surgeRisk || decide (half < st.minSpeed) }

/-! ## Over the state -/

/-- A segment record in place of one that is undefined; no side of a defined valve is (R3). -/
def Seg.none : Seg where
  use := .inService
  zone := 0
  length := 0
  celerity := 0
  rating := 0
  diameter := 0
  protection := .none
  valves := []

def State.segOf (s : State) (n : Nat) : Seg := (s.seg? n).getD Seg.none

/-- The point assigned to a segment (no two name the same segment, R63). -/
def State.pointOn (s : State) (n : Nat) : Option (Nat × Point) := s.points.find? (·.2.asg.seg = n)

/-- The current pressure of a segment and whether its source is SAMPLE (R70). -/
def State.currentPressure (s : State) (n : Nat) : Nat × Bool :=
  let nominal := ((s.zone (s.segOf n).zone).record.nominal, false)
  match s.pointOn n with
  | none => nominal
  | some (_, p) =>
    if p.fresh then
      match p.ring.getLast? with
      | some x => (x.pressure, true)
      | none => nominal
    else nominal

/-- The segments of a valve's sides. -/
def State.sides (s : State) (st : ValveStatic) : Seg × Option Seg := (s.segOf st.sideA, st.sideB.map s.segOf)

/-- Whether a side of the valve is the burst segment (R99). -/
def besideBurst (st : ValveStatic) (burst : Option Nat) : Bool :=
  match burst with
  | none => false
  | some n => decide (st.sideA = n) || decide (st.sideB = some n)

/-- The index of the governing side's segment (R98). -/
def State.governingSeg (s : State) (st : ValveStatic) : Nat :=
  match st.sideB with
  | none => st.sideA
  | some n => if reflection (s.segOf st.sideA) < reflection (s.segOf n) then n else st.sideA

/-- The full computation for a valve, with the burst segment of an incident or none, and a class (R97). -/
def State.timing (s : State) (st : ValveStatic) (burst : Option Nat) (cls : Class) : Figures :=
  let (a, b) := s.sides st
  fullTiming st a b (s.currentPressure (s.governingSeg st)).1 (besideBurst st burst) cls

/-- The abrupt rise that the policy test ABRUPT_RISE compares (R101, R111). -/
def State.abruptRiseOf (s : State) (st : ValveStatic) (burst : Option Nat) : Nat :=
  let (a, b) := s.sides st
  abruptRise (governing a b).celerity (velocityChange st.velocity (besideBurst st burst))

end Sys2Proof.Machine
end

