-- ==== Sys2Proof/Machine/Policy.lean ====
section
/-! DEFINITION. The policy evaluations (chapter 7): tests, rules, groups, the winner of an evaluation, and how results
combine. -/

namespace Sys2Proof.Machine

open Sys2Proof

/-- All thirty-two rule numbers, rising. -/
def allRules : List (Fin 32) := List.finRange 32

/-- Whether a rule matches the value its test yields (R113). -/
def Rule.isMatch (r : Rule) (x : Nat) : Bool :=
  match r.cmp with
  | .equal => decide (x = r.low)
  | .notEqual => decide (x ≠ r.low)
  | .inRange => decide (r.low ≤ x) && decide (x ≤ r.high)
  | .outOfRange => decide (x < r.low) || decide (x > r.high)

/-- The stage of a group: that of every member, or none when the members differ (MIXED) (R114). -/
def groupStage (rules : Vector Rule 32) (members : List (Fin 32)) : Option Stage :=
  match members with
  | [] => some .off
  | m :: rest =>
    if rest.all fun k => decide ((rules.get k).stage = (rules.get m).stage) then some (rules.get m).stage else none

/-- A group takes part in an evaluation and matches: it is enabled, its stage is the one evaluated, and every member
matches (R115). -/
def groupMatches (rules : Vector Rule 32) (g : Group) (stage : Stage) (value : Fin 15 → Nat) : Bool :=
  g.enabled && decide (groupStage rules g.members = some stage) &&
    g.members.all fun k => (rules.get k).isMatch (value (rules.get k).test)

/-- The winner of an evaluation: the matching group with the lowest-numbered lead rule, and the lowest group number
among those that share it (R115). -/
def winner (rules : Vector Rule 32) (groups : Vector Group 16) (stage : Stage) (value : Fin 15 → Nat) :
    Option (Fin 16) :=
  (allSixteen.filter fun g => groupMatches rules (groups.get g) stage value).foldl
    (fun best g =>
      match best with
      | none => some g
      | some b => if (groups.get g).lead < (groups.get b).lead then some g else some b) none

/-- The action of an evaluation: the winner's lead rule, or the default action (R115). -/
def action (rules : Vector Rule 32) (groups : Vector Group 16) (w : Option (Fin 16)) : Rule :=
  match w with
  | none => Rule.empty
  | some g => rules.get (groups.get g).lead

/-- The stricter of two classes (R118). -/
def Class.stricter (a b : Class) : Class := if a.code < b.code then b else a

/-- The effective priority of a requested priority under a priority mode (R119). -/
def effectivePrio (mode : PrioMode) (value r : Nat) : Nat :=
  match mode with
  | .keep => r
  | .raise => max r value
  | .lower => min r value
  | .set => value

/-- The higher of two protection classes (R85, R111). -/
def Protection.higher (a b : Protection) : Protection := if a.code < b.code then b else a

/-- The value of a valve-stage test (R111); a plan-stage test has none and reads 0. -/
def State.valveTest (s : State) (v : Nat) (st : ValveStatic) (burst : Option Nat) (t : Fin 15) : Nat :=
  match t.val with
  | 0 => v
  | 1 => st.size
  | 2 => st.line.val
  | 3 => (s.segOf st.sideA).zone.val
  | 4 => st.turns
  | 5 => s.abruptRiseOf st burst
  | 6 => if st.sideB = none then 1 else 0
  | 7 =>
    let (a, b) := s.sides st
    (match b with
      | none => a.protection
      | some y => a.protection.higher y.protection).code
  | _ => 0

/-- The valve-stage evaluation of a valve for an incident's burst segment (R116): its action. -/
def State.valveAction (s : State) (v : Nat) (st : ValveStatic) (burst : Option Nat) : Rule :=
  action s.rules s.groups (winner s.rules s.groups .valve (s.valveTest v st burst))

end Sys2Proof.Machine
end

