-- ==== Sys2Proof/Machine/Status.lean ====
section
/-! DEFINITION. What the valve status table derives (chapter 3): disposition and orphans (R58, R59), usability (R53),
which MOVEs are barred (R52), the waiting motions (R47) and their withdrawal (R61); and the pressure points' samples
(chapter 4). -/

namespace Sys2Proof.Machine

open Sys2Proof

/-- The disposition of a valve, in the order of the tests of R58. -/
inductive Disposition where
  | locked
  | held
  | orphan
  | atNormal
  deriving DecidableEq, Repr

def Disposition.code : Disposition → Nat
  | .locked => 0
  | .held => 1
  | .orphan => 2
  | .atNormal => 3

/-- The normal position in turns: the valve's turns for OPEN, 0 for CLOSED (R58, R60). -/
def normalTurns (st : ValveStatic) : Nat :=
  match st.normal with
  | .opened => st.turns
  | .closed => 0

/-- The accepted position is known and differs from the normal position (R58), but for a valve that a completed release has just
brought there: it stands at its normal position (R61, R168) until a position is accepted anew, which is the model's choice
(log 41). -/
def Valve.offNormal (x : Valve) : Bool :=
  match x.vol.accepted with
  | none => false
  | some p => decide (p ≠ normalTurns x.st) && !x.vol.released

/-- The disposition of a defined valve (R58, R168). -/
def State.dispositionOf (s : State) (v : Nat) (x : Valve) : Disposition :=
  if s.isLocked v then .locked
  else if !x.vol.holds.isEmpty then .held
  else if x.offNormal && !s.hasMover v && x.vol.waiting.isEmpty then .orphan
  else .atNormal

/-- The number of defined valves whose disposition is ORPHAN (R59). -/
def State.orphans (s : State) : Nat :=
  (s.valves.filter fun (v, x) => decide (s.dispositionOf v x = .orphan)).length

/-- The orphan count follows the dispositions in RUNNING; a rise from 0 raises ORPHANS_PRESENT; in STARTING it reads 0
(R59). -/
def State.refreshOrphans (s : State) : State :=
  match s.device with
  | .starting => { s with orphanCount := 0 }
  | .running =>
    let t := { s with orphanCount := s.orphans }
    if s.orphanCount = 0 ∧ 0 < s.orphans then t.raiseDev .orphansPresent else t

/-- The fault states (R46). -/
def MotionState.isFault : MotionState → Bool
  | .stuck => true
  | .unresponsive => true
  | .localMode => true
  | .atRest => false
  | .closeRun => false
  | .closeWait => false
  | .closeSlow => false
  | .openWait => false
  | .openSlow => false
  | .openRun => false
  | .stopping => false

/-- The usability test of R53 for an incident. -/
def State.usable (s : State) (i : Fin 16) (v : Nat) : Bool :=
  match s.valve? v with
  | none => false
  | some x =>
    decide (x.st.mark = .inService) && decide (x.vol.status = .fresh) && !x.vol.motion.isFault &&
      decide ((s.line x.st.line).state = .running) && !(s.inc i).excl.contains v &&
      (match s.lockOf v with
        | none => true
        | some e => decide (e.position = 0))

/-- Whether the valve status table bars a MOVE of a direction to a valve (R52). -/
def State.bars (s : State) (v : Nat) (d : Dir) : Bool :=
  s.isLocked v || (decide (d = .opening) && !(s.holds v).isEmpty)

/-! ## Waiting motions -/

def Waiting.isRelease : Waiting → Bool
  | .release _ => true
  | .restore _ _ => false

/-- List a motion among a valve's waiting motions, once (R47). -/
def State.addWaiting (s : State) (v : Nat) (w : Waiting) : State :=
  s.modVol v fun x => if x.waiting.contains w then x else { x with waiting := x.waiting ++ [w] }

/-- Take a motion off a valve's waiting motions (R47). -/
def State.dropWaiting (s : State) (v : Nat) (w : Waiting) : State :=
  s.modVol v fun x => { x with waiting := x.waiting.filter (· ≠ w) }

/-- A release motion of the valve that still waits is withdrawn (R61). -/
def State.withdrawRelease (s : State) (v : Nat) : State :=
  s.modVol v fun x => { x with waiting := x.waiting.filter (!·.isRelease) }

/-! ## Hold sets -/

/-- A slot leaves a valve's hold set (R50). -/
def State.leaveHold (s : State) (i : Fin 16) (v : Nat) : State :=
  s.modVol v fun x => { x with holds := x.holds.filter (· ≠ i) }

/-! ## Points -/

/-- A recorded round r is older than round n: n less r, modulo 2^32, lies between 1 and 2,147,483,647 (R22). -/
def older (r n : Count32) : Bool := decide (1 ≤ (n - r).toNat) && decide ((n - r).toNat ≤ 2147483647)

/-- The assigned point with a line and sensor address (R63, R67). -/
def State.pointAt (s : State) (l : Fin 4) (addr : Nat) : Option (Nat × Point) :=
  s.points.find? fun (_, p) => decide (p.asg.line = l) && decide (p.asg.addr = addr)

/-- A GOOD sample is stored: the oldest goes when 16 are held, the point is fresh and its BAD count 0 (R67). -/
def Point.store (p : Point) (x : Sample) : Point :=
  { p with
    ring := (if p.ring.length ≥ Config.maxSamples then p.ring.drop (p.ring.length + 1 - Config.maxSamples) else p.ring) ++ [x]
    fresh := true
    bad := 0 }

/-- A BAD reply is counted, saturating (R68). -/
def Point.countBad (p : Point) : Point := { p with bad := min 255 (p.bad + 1) }

/-- At a round boundary a fresh point whose newest sample is older than the round just ended ceases to be fresh (R69). -/
def Point.age (p : Point) (ended : Count32) : Point :=
  match p.ring.getLast? with
  | none => { p with fresh := false }
  | some x => if older x.round ended then { p with fresh := false } else p

end Sys2Proof.Machine
end

