-- ==== Sys2Proof/Machine/Planning.lean ====
section
/-! DEFINITION. The planner queue and the beginning of a computation (R73 to R75), and how a replan trigger and a step
report reach an incident (R131, R137, R143, R144, R154). -/

namespace Sys2Proof.Machine

open Sys2Proof

/-! ## The planner queue -/

/-- A computation as it begins (R73, R75, R77): its working sets are clear but for the burst segment, which is the
zone's first member and stands on the stack. -/
def Comp.begin (x : Incident) (i : Fin 16) : Comp where
  slot := i
  tag := x.tag.getD 65535
  kind := if x.steps.isEmpty then .first else .replan
  again := false
  stage := .search
  zone := [x.burst.getD 0]
  stack := [x.burst.getD 0]
  cur := none
  examined := []
  boundary := []
  edgeValves := []
  edgeCount := 0
  visited := []
  explored := []
  spill := []
  spillFlag := false
  rescans := 0
  stranded := []
  noFeeds := false
  protection := .none
  group := none
  concurrence := false
  cls := .normal
  prio := 0

/-- A planner without a computation takes the head of its queue and begins (R75). -/
def State.beginComp (s : State) : State :=
  match s.planner.comp, s.planner.queue with
  | none, i :: rest => { s with planner := { queue := rest, comp := some (Comp.begin (s.inc i) i) } }
  | _, _ => s

/-- Whether a computation in progress belongs to the slot's present tenancy (R74). -/
def State.computing (s : State) (i : Fin 16) : Bool :=
  match s.planner.comp with
  | none => false
  | some c => decide (c.slot = i) && decide ((s.inc i).tag = some c.tag)

/-- The slot joins the tail of the planner queue, and an idle planner begins at once (R74, R75). -/
def State.enqueue (s : State) (i : Fin 16) : State :=
  ({ s with planner := { s.planner with queue := s.planner.queue ++ [i] } } : State).beginComp

/-- A planning request (R74): it merges into an entry, sets the repeat mark of a computation of the same tenancy, or
joins the tail. -/
def State.planningRequest (s : State) (i : Fin 16) : State :=
  if s.planner.queue.contains i then s
  else if s.computing i then
    { s with planner := { s.planner with comp := s.planner.comp.map fun c => { c with again := true } } }
  else s.enqueue i

/-- The slot's planner queue entry, if any, is removed (R75). -/
def State.dropEntry (s : State) (i : Fin 16) : State :=
  { s with planner := { s.planner with queue := s.planner.queue.filter (· ≠ i) } }

/-! ## Triggers -/

/-- A confirmation timer that runs is cancelled and the watch becomes IDLE (R139). -/
def Watch.cancel : Watch → Watch
  | .running _ => .idle
  | .idle => .idle
  | .ended => .ended

/-- The incident enters PLAN_FAILED (R131): it records the failure, loses hold pending and its waves and its queue
entry, and raises PLAN_FAILED. -/
def State.enterPlanFailed (s : State) (i : Fin 16) (f : Failure) : State :=
  let s := s.modInc i fun x =>
    { x with
      state := .planFailed
      failure := some f
      holdPending := false
      current := none
      staged := none
      heldFrom := none
      replanDue := false
      watch := x.watch.cancel }
  (s.dropEntry i).raiseInc i .planFailed

/-- The three replan triggers (R143). -/
inductive TriggerKind where
  | stepFailure
  | mark
  | drift
  deriving DecidableEq, Repr

/-- The plan an incident holds is its first (R135). -/
def Incident.firstPlan (x : Incident) : Bool := decide ((x.plan.map (·.kind)) = some .first)

/-- Whether a trigger acts in the incident's state (R144); in AWAITING_CONCURRENCE only after a replan. -/
def Incident.triggerActs (x : Incident) (k : TriggerKind) : Bool :=
  match x.state with
  | .closing => true
  | .awaitingConcurrence => !x.firstPlan
  | .replanning => true
  | .held => decide (x.heldFrom = some .closing)
  | .isolated => decide (k = .drift)
  | .confirmed => decide (k = .drift)
  | .leakThrough => decide (k = .drift)
  | .planFailed => decide (k = .stepFailure)
  | .free => false
  | .planning => false
  | .restoring => false

/-- Add a valve to the end of an exclusion list that does not hold it (R90, R144, R145). -/
def addExcl (excl : List Nat) (v : Nat) : List Nat := if excl.contains v then excl else excl ++ [v]

/-- The replan that a trigger starts in a state other than HELD and PLAN_FAILED (R144). -/
def State.enterReplanning (s : State) (i : Fin 16) : State :=
  (s.modInc i fun x => { x with state := .replanning, staged := none, watch := x.watch.cancel }).planningRequest i

/-- A replan trigger for valve `v` (R144). -/
def State.trigger (s : State) (i : Fin 16) (v : Nat) (k : TriggerKind) : State :=
  let x := s.inc i
  if !x.triggerActs k then s
  else if x.state = .planFailed then
    (s.modInc i fun x => if x.excl.length < Config.maxExcl then { x with excl := addExcl x.excl v } else x).raiseInc i
      .stepFailed
  else if !x.excl.contains v && decide (x.excl.length ≥ Config.maxExcl) then
    (s.raiseInc i .stepFailed).enterPlanFailed i
      { reason := .exclusionsFull, zoneCount := none, stepCount := none, excl := x.excl }
  else
    let s := s.modInc i fun x => { x with excl := addExcl x.excl v }
    let s := match x.state with
      | .held => s.modInc i fun x => { x with replanDue := true }
      | .replanning => s.planningRequest i
      | .closing => s.enterReplanning i
      | .awaitingConcurrence => s.enterReplanning i
      | .isolated => s.enterReplanning i
      | .confirmed => s.enterReplanning i
      | .leakThrough => s.enterReplanning i
      | .free => s
      | .planning => s
      | .planFailed => s
      | .restoring => s
    s.raiseInc i .stepFailed

/-! ## Step reports -/

/-- What the motion executor reports of a step (R137). -/
inductive StepReport where
  | moving
  | shadow
  | closed
  | waiting
  | reopened
  | retained
  | failed (c : FailCause)
  deriving DecidableEq, Repr

/-- The step state a report gives. -/
def StepReport.state : StepReport → StepState
  | .moving => .moving
  | .shadow => .shadow
  | .closed => .closed
  | .waiting => .waiting
  | .reopened => .reopened
  | .retained => .retained
  | .failed _ => .failed

/-- Set the state of an incident's step, with the cause of a failure. -/
def State.setStep (s : State) (i : Fin 16) (v : Nat) (x : StepState) (c : Option FailCause) : State :=
  s.modStep i v fun st => { st with state := x, cause := c }

/-- A restore step's motion is handed to the executor and listed among the valve's waiting motions (R152). -/
def State.listRestore (s : State) (i : Fin 16) (tag v : Nat) : State := s.addWaiting v (.restore i tag)

/-- A report of a step reaches the incident of its tenancy (R137). Of a step taken up for restore, CLOSED and WAITING
leave it WAITING and handed (R149, R152, R173, R174), and FAILED raises STEP_FAILED (R154). Of a closing step, FAILED
is a replan trigger (R143). A report for another tenancy is taken by no incident. -/
def State.reportStep (s : State) (i : Fin 16) (tag v : Nat) (r : StepReport) : State :=
  if !s.tenancy i tag then s
  else match (s.inc i).stepFor v with
    | none => s
    | some st =>
      if st.takenUp then
        match r with
        | .closed => (s.setStep i v .waiting none).listRestore i tag v
        | .waiting => (s.setStep i v .waiting none).listRestore i tag v
        | .failed c => (s.setStep i v .failed (some c)).raiseInc i .stepFailed
        | .moving => s.setStep i v .moving none
        | .shadow => s.setStep i v .shadow none
        | .reopened => s.setStep i v .reopened none
        | .retained => s.setStep i v .retained none
      else
        match r with
        | .failed c => (s.setStep i v .failed (some c)).trigger i v .stepFailure
        | .closed => s.setStep i v .closed none
        | .waiting => s.setStep i v .waiting none
        | .moving => s.setStep i v .moving none
        | .shadow => s.setStep i v .shadow none
        | .reopened => s.setStep i v .reopened none
        | .retained => s.setStep i v .retained none

end Sys2Proof.Machine
end

