-- ==== Sys2Proof/Machine/Queue.lean ====
section
/-! DEFINITION. The command queue of a line (R28, R31, R38, R39, R49, R169), the report chain (R32 to R34), and the
poll ring as the model changes it (R26, R27). -/

namespace Sys2Proof.Machine

open Sys2Proof

/-! ## The command queue -/

def Cmd.isMove : Cmd → Bool
  | .move _ _ _ _ => true
  | .stop => false

/-- Whether the line's transaction in flight is the command of its oldest entry (R28, R29); one whose node the model has
removed has no outcome, so nothing waits for it (R24). -/
def Line.commandInFlight (x : Line) : Bool :=
  match x.txn with
  | none => false
  | some t => !t.gone && (decide (t.kind = .move) || decide (t.kind = .stop))

/-- A new command for a valve that has an entry takes its place; while the entry's transaction is in flight it waits to
take the place when that ends (R28). -/
def replaceEntry (inFlight : Bool) (v : Nat) (c : Cmd) : List Entry → List Entry
  | [] => []
  | e :: rest =>
    if e.valve = v then (if inFlight then { e with next := some c } else { e with cmd := c, next := none }) :: rest
    else e :: replaceEntry false v c rest

/-- The executor hands a command to a line (R28, R169): it replaces the valve's entry, or joins the tail, or is
returned as not sent. Of a full queue the executor keeps it to hand it again; a STOPPED line takes nothing. -/
def Line.hand (x : Line) (v : Nat) (c : Cmd) : Line :=
  let x := { x with kept := x.kept.filter (·.valve ≠ v) }
  match x.state with
  | .stopped => x
  | _ =>
    if x.queue.any (·.valve = v) then { x with queue := replaceEntry x.commandInFlight v c x.queue }
    else if x.queue.length ≥ Config.maxQueue then { x with kept := x.kept ++ [{ valve := v, cmd := c, next := none }] }
    else { x with queue := x.queue ++ [{ valve := v, cmd := c, next := none }] }

/-- The commands the executor kept are handed again (R169), each as `f` makes it at this moment (R105). -/
def Line.rehand (x : Line) (f : Nat → Cmd → Cmd) : Line :=
  x.kept.foldl (fun y e => y.hand e.valve (f e.valve e.cmd)) { x with kept := [] }

/-- Remove the entries of a valve that meet a test; the entry whose transaction is in flight stays (R28, R52). -/
def removeEntries (inFlight : Bool) (p : Entry → Bool) : List Entry → List Entry
  | [] => []
  | e :: rest => if inFlight then e :: rest.filter (!p ·) else (e :: rest).filter (!p ·)

/-- A queued MOVE of the valve leaves without being sent; of an entry in flight, a MOVE that waits to take its place
does (R28, R38, R39). -/
def Line.dropMoves (x : Line) (v : Nat) (p : Cmd → Bool) : Line :=
  { x with queue :=
      (removeEntries x.commandInFlight (fun e => decide (e.valve = v) && p e.cmd) x.queue).map fun e =>
        if decide (e.valve = v) && (e.next.map p).getD false then { e with next := none } else e }

/-- Every entry of a valve leaves the queue (R11, R36), and with them a command that the executor kept for it because the queue was
full, of which the spec says nothing (log 33). -/
def Line.dropValve (x : Line) (v : Nat) : Line :=
  { x with queue := x.queue.filter (·.valve ≠ v), kept := x.kept.filter (·.valve ≠ v) }

/-- A MOVE that the executor kept for a motion is dropped when the motion ends. -/
def Line.dropKeptMoves (x : Line) (v : Nat) : Line :=
  { x with kept := x.kept.filter fun e => !(decide (e.valve = v) && e.cmd.isMove) }

/-! ## The report chain -/

/-- Status byte bits of a QUERY reply (R23). -/
def Report.closedLimit (r : Report) : Bool := r.status.getLsbD 0
def Report.openLimit (r : Report) : Bool := r.status.getLsbD 1
def Report.localMode (r : Report) : Bool := r.status.getLsbD 2
def Report.torqueTrip (r : Report) : Bool := r.status.getLsbD 3
def Report.moving (r : Report) : Bool := r.status.getLsbD 4

/-- A run after a report that meets its condition or does not (R33). -/
def runNext (run : Nat) (meets : Bool) : Nat := if meets then min 2 (run + 1) else 0

def Report.meetsClosed (r : Report) : Bool := r.closedLimit || decide (r.position = 0)
def Report.meetsOpen (r : Report) (turns : Nat) : Bool := r.openLimit || decide (r.position = turns)
def Report.meetsTarget (r : Report) (target : Option Nat) : Bool := !r.moving && decide (target = some r.position)

/-- A report is taken into a valve's chain (R32, R33, R35): reported position, agreement count, accepted position and
FRESH status where two agree, and the three runs. A position accepted ends what a completed release said of the valve (log 41). -/
def ValveVol.take (x : ValveVol) (turns : Nat) (r : Report) : ValveVol :=
  let agreement :=
    match x.lastReport with
    | some q => if q.position = r.position then min 255 (x.agreement + 1) else 1
    | none => 1
  { x with
    reported := some r.position
    lastReport := some r
    agreement := agreement
    accepted := if agreement ≥ 2 then some r.position else x.accepted
    status := if agreement ≥ 2 then .fresh else x.status
    closedRun := runNext x.closedRun r.meetsClosed
    openRun := runNext x.openRun (r.meetsOpen turns)
    targetRun := runNext x.targetRun (r.meetsTarget x.target)
    released := x.released && decide (agreement < 2) }

/-- The report chain is broken (R32, R34); the reported and accepted positions are kept. -/
def ValveVol.breakChain (x : ValveVol) : ValveVol :=
  { x with
    lastReport := none
    agreement := 0
    closedRun := 0
    openRun := 0
    targetRun := 0
    target := none
    awaitRest := false }

/-- FRESH becomes STALE (R27, R36, R42). -/
def ValveVol.lapse (x : ValveVol) : ValveVol := if x.status = .fresh then { x with status := .stale } else x

/-! ## Rounds and the poll ring -/

/-- What a line keeps for a node. -/
def Line.node? (x : Line) (addr : Nat) : Option Node := tabGet x.nodes addr

/-- The last valid round of a node is older than a round; a node without one counts as older (R27). -/
def Line.nodeOlder (x : Line) (addr : Nat) (ended : Count32) : Bool :=
  match (x.node? addr).bind (·.lastValid) with
  | none => true
  | some r => older r ended

/-- A poll round begins (R27): the round number rises, the cursor stands at the lowest address, FRESH valves whose last
valid round is older than the round just ended become STALE, and the points of the line age (R69), also in the rounds that a line runs
after its second start-up round while another line still starts, where R66 says otherwise (log 42). -/
def State.beginRound (s : State) (l : Fin 4) : State :=
  let ended := (s.line l).round
  let s := s.modLine l fun x => { x with round := x.round + 1, cursor := tabFirst x.nodes }
  { s with
    valves := s.valves.map fun (v, x) =>
      (v, if decide (x.st.line = l) && (s.line l).nodeOlder x.st.addr ended then { x with vol := x.vol.lapse } else x)
    points := s.points.map fun (k, p) => (k, if p.asg.line = l then p.age ended else p) }

/-- A line begins a round where its ring is not empty; a line whose ring is empty begins none (R27). -/
def State.beginRoundIfAny (s : State) (l : Fin 4) : State :=
  if (s.line l).nodes.isEmpty then s.modLine l fun x => { x with cursor := none } else s.beginRound l

/-- An address joins the poll ring with miss count 0 and no last valid round (R26); added to an empty ring of a line
that polls, it begins a round at once (R27). On a STOPPED line, which does not poll (R27), it begins none and the round number stays
until LINE_START begins a round, which is the model's choice (log 48). -/
def State.addNode (s : State) (l : Fin 4) (addr : Nat) : State :=
  let wasEmpty := (s.line l).nodes.isEmpty
  let s := s.modLine l fun x => { x with nodes := tabPut x.nodes addr { misses := 0, lastValid := none } }
  if wasEmpty && decide ((s.line l).state ≠ .stopped) then s.beginRound l else s

/-- An address leaves the poll ring with its miss count (R26). A transaction in flight to it loses its outcome (R24).
An address removed at the cursor moves the cursor to the next higher one; with none higher the round under way has
ended and the next begins (R27), but on a STOPPED line, which does not poll. -/
def State.dropNode (s : State) (l : Fin 4) (addr : Nat) : State :=
  let atCursor := decide ((s.line l).cursor = some addr)
  let after := tabAfter (s.line l).nodes addr
  let s := s.modLine l fun x =>
    { x with
      nodes := tabDrop x.nodes addr
      txn := x.txn.map fun t => if t.addr = addr then { t with gone := true } else t }
  if !atCursor then s
  else match after with
    | some a => s.modLine l fun x => { x with cursor := some a }
    | none =>
      if (s.line l).state = .stopped then s.modLine l fun x => { x with cursor := tabFirst x.nodes }
      else s.beginRoundIfAny l

/-- A valid reply clears the node's miss count and records the round (R25, R36). -/
def State.validReply (s : State) (l : Fin 4) (addr : Nat) : State :=
  s.modLine l fun x => { x with nodes := tabMod x.nodes addr fun _ => { misses := 0, lastValid := some x.round } }

/-- The valve whose actuator has a node address on a line (R2: no two share it). -/
def State.valveAt (s : State) (l : Fin 4) (addr : Nat) : Option (Nat × Valve) :=
  s.valves.find? fun (_, x) => decide (x.st.line = l) && decide (x.st.addr = addr)

end Sys2Proof.Machine
end

