-- ==== Sys2Proof/Machine/Motion.lean ====
section
/-! DEFINITION. The motion executor (chapter 9) but for its arbiters: commands and timers, the sequences, the ends of a
motion, stops, shared valves, reversal and the surge guard; and the hold a valve gains (R49), which may reverse an
opening. -/

namespace Sys2Proof.Machine

open Sys2Proof

/-! ## Commands -/

def State.hand (s : State) (l : Fin 4) (v : Nat) (c : Cmd) : State := s.modLine l (·.hand v c)

/-- A motion as it takes its slot (R159): no timer runs and nothing stops it. -/
def Motion.begin (o : Owner) (v : Nat) (d : Dir) (f : Option Figures) : Motion where
  owner := o
  valve := v
  dir := d
  figures := f
  motionTimer := none
  stopTimer := none
  stop := none
  reversal := none
  stepNo := none

def State.modMotion (s : State) (l j : Fin 4) (f : Motion → Motion) : State :=
  s.setSlot l j ((s.motionAt l j).map f)

/-- The distance of a MOVE from the valve's accepted position (R105). A granted motion's valve always has one; without
one the full travel counts. -/
def moveDistance (accepted : Option Nat) (turns target : Nat) : Nat :=
  let p := accepted.getD turns
  (p - target) + (target - p)

/-- The timeout of a MOVE handed for a valve at this moment, from its accepted position (R105). -/
def Valve.moveTimeout (x : Valve) (target speed : Nat) : Nat :=
  motionTimeout (moveDistance x.vol.accepted x.st.turns target) speed

/-- The executor hands a MOVE with the timeout computed at this moment (R105, R169). -/
def State.handMove (s : State) (l : Fin 4) (v target speed : Nat) (d : Dir) : State :=
  match s.valve? v with
  | none => s
  | some x => s.hand l v (.move target speed d (x.moveTimeout target speed))

/-- A command as it is handed again: a MOVE gets the timeout of this moment (R105). -/
def State.retime (s : State) (v : Nat) (c : Cmd) : Cmd :=
  match c, s.valve? v with
  | .move target speed d _, some x => .move target speed d (x.moveTimeout target speed)
  | c, _ => c

/-- The slow speed recorded for a motion: the step's as it stands, or the release's (R106, R107). -/
def State.slowOf (s : State) (m : Motion) : Nat :=
  match m.owner with
  | .step i _ => (((s.inc i).stepFor m.valve).map (·.figures.slow)).getD 0
  | .release _ => (m.figures.map (·.slow)).getD 0

/-! ## Allowance -/

/-- A motion asks for the allowance of its valve's zone (R165). -/
def State.askAllowance (s : State) (v : Nat) : State :=
  s.modZone (s.zoneOf v) fun z => if z.requests.contains v then z else { z with requests := z.requests ++ [v] }

/-- A motion's request is withdrawn (R165). -/
def State.dropRequest (s : State) (v : Nat) : State :=
  s.modZone (s.zoneOf v) fun z => { z with requests := z.requests.filter (· ≠ v) }

/-- A holder gives its allowance back (R165). -/
def State.giveBack (s : State) (v : Nat) : State :=
  s.modZone (s.zoneOf v) fun z => { z with holders := z.holders.filter (· ≠ v) }

/-- A motion leaves the guard's stopped list (R178). -/
def State.leaveStopped (s : State) (v : Nat) (o : Owner) : State :=
  s.modZone (s.zoneOf v) fun z => { z with stopped := z.stopped.filter (· ≠ ⟨v, o⟩) }

/-! ## The end of a motion -/

/-- What every end of a motion does (R166, R171, R173): the timers go with the record, the allowance or its request is
given back, the slot is freed and so the mover cleared, and the motion state becomes AT_REST where no fault stands. -/
def State.endMotion (s : State) (l j : Fin 4) (v : Nat) : State :=
  let s := (s.giveBack v).dropRequest v
  let s := s.modLine l fun x => ({ x with slots := x.slots.set j none } : Line).dropKeptMoves v
  if (s.motion v).isFault then s else s.setMotion v .atRest

/-- The SHADOW steps of a valve end with the closing motion they follow (R175), from I0 to I15 and after its owner, an order the spec
leaves open (R137, log 40). -/
def State.endShadows (s : State) (v : Nat) (r : StepReport) : State :=
  allSixteen.foldl (fun s i =>
    match (s.inc i).tag, (s.inc i).stepFor v with
    | some t, some st => if st.state = .shadow then s.reportStep i t v r else s
    | _, _ => s) s

/-- Report to the owner of a motion; a release reports to no incident (R168). -/
def State.reportOwner (s : State) (m : Motion) (r : StepReport) : State :=
  match m.owner with
  | .step i t => s.reportStep i t m.valve r
  | .release _ => s

/-- A completed release leaves its valve at its normal position, AT_NORMAL (R61, R168), also where limit switches completed it
before that position is accepted (log 41). -/
def State.markReleased (s : State) (m : Motion) : State :=
  match m.owner with
  | .step _ _ => s
  | .release _ => s.modVol m.valve fun x => { x with released := true }

/-- A motion is complete (R166, R167, R168, R174). -/
def State.complete (s : State) (l j : Fin 4) (m : Motion) : State :=
  let s := ((s.leaveStopped m.valve m.owner).endMotion l j m.valve).markReleased m
  match m.dir with
  | .closing => (s.reportOwner m .closed).endShadows m.valve .closed
  | .opening => s.reportOwner m .reopened

/-- A motion fails with a cause (R171); the SHADOW steps of a closing motion fail with it (R175). -/
def State.fail (s : State) (l j : Fin 4) (m : Motion) (c : FailCause) : State :=
  let s := (s.leaveStopped m.valve m.owner).endMotion l j m.valve
  match m.dir with
  | .closing => (s.reportOwner m (.failed c)).endShadows m.valve (.failed c)
  | .opening => s.reportOwner m (.failed c)

/-- The motion of a valve, if it holds a slot, fails with a cause. -/
def State.failMover (s : State) (v : Nat) (c : FailCause) : State :=
  match s.moverAt v with
  | none => s
  | some (l, j, m) => s.fail l j m c

/-! ## The sequences -/

/-- The closing sequence begins (R166). With `atOnce` (a motion that inherits its slot by reversal) a valve whose closed
run is 2 is complete at once. -/
def State.startClosing (s : State) (l j : Fin 4) (m : Motion) (atOnce : Bool) : State :=
  match s.valve? m.valve with
  | none => s
  | some x =>
    let b := slowBoundary x.st.turns
    if atOnce && decide (x.vol.closedRun = 2) then s.complete l j m
    else if x.vol.accepted.getD x.st.turns > b then
      (s.handMove l m.valve b x.st.maxSpeed .closing).setMotion m.valve .closeRun
    else (s.setMotion m.valve .closeWait).askAllowance m.valve

/-- The opening sequence begins (R167). -/
def State.startOpening (s : State) (l : Fin 4) (m : Motion) : State :=
  match s.valve? m.valve with
  | none => s
  | some x =>
    if x.vol.accepted.getD 0 < slowBoundary x.st.turns then (s.setMotion m.valve .openWait).askAllowance m.valve
    else (s.handMove l m.valve x.st.turns x.st.maxSpeed .opening).setMotion m.valve .openRun

/-- An allowance is granted to a valve whose motion waits for it (R165 to R167): it becomes a holder and goes into its
slow phase at once. -/
def State.grantAllowance (s : State) (v : Nat) : State :=
  let s := s.dropRequest v
  match s.valve? v, s.moverAt v with
  | some x, some (l, _, m) =>
    let s := s.modZone (s.zoneOf v) fun z => { z with holders := z.holders ++ [v] }
    match m.dir with
    | .closing => (s.handMove l v 0 (s.slowOf m) .closing).setMotion v .closeSlow
    | .opening => (s.handMove l v (slowBoundary x.st.turns) (s.slowOf m) .opening).setMotion v .openSlow
  | _, _ => s

/-- Reached target (R33): a run phase of a closing has ended at b, or a crack phase at b (R166, R167). In any other
state it is not acted on (R174). -/
def State.reachedTarget (s : State) (v : Nat) : State :=
  match s.moverAt v, s.valve? v with
  | some (l, j, _), some x =>
    match x.vol.motion with
    | .closeRun => ((s.modMotion l j fun m => { m with motionTimer := none }).setMotion v .closeWait).askAllowance v
    | .openSlow =>
      (((s.modMotion l j fun m => { m with motionTimer := none }).giveBack v).handMove l v x.st.turns x.st.maxSpeed
        .opening).setMotion v .openRun
    | _ => s
  | _, _ => s

/-- Reached closed (R33): a closing motion in any of its phases, or one being stopped, is complete (R166, R174). -/
def State.reachedClosed (s : State) (v : Nat) : State :=
  match s.moverAt v with
  | none => s
  | some (l, j, m) =>
    if m.dir = .closing ∧ s.motion v ∈ [MotionState.closeRun, .closeWait, .closeSlow, .stopping] then s.complete l j m
    else s

/-- Reached open (R33): an opening motion is complete in any of its phases, not while it is stopped (R167, R174). -/
def State.reachedOpen (s : State) (v : Nat) : State :=
  match s.moverAt v with
  | none => s
  | some (l, j, m) =>
    if m.dir = .opening ∧ s.motion v ∈ [MotionState.openWait, .openSlow, .openRun] then s.complete l j m else s

/-! ## Reversal -/

/-- Whether an incident's step could be offered for a closing grant but for its wave (R136, R177). -/
def Incident.offersClosing (x : Incident) : Bool :=
  (decide (x.state = .closing) || (decide (x.state = .replanning) && !x.holdPending)) &&
    !(x.concRequired && x.concGiven.isNone)

/-- A reversing motion is at rest (R177): the opening ends, and the recorded incident's step inherits the slot where
that incident, in the same tenancy, still holds the valve, its step is WAITING and could be offered. -/
def State.reverse (s : State) (l j : Fin 4) (m : Motion) : State :=
  let v := m.valve
  let s := (s.leaveStopped v m.owner).endMotion l j v
  let s := s.reportOwner m .retained
  match m.reversal with
  | none => s
  | some (i, t) =>
    match (s.inc i).stepFor v with
    | none => s
    | some st =>
      if s.tenancy i t && (s.holds v).contains i && decide (st.state = .waiting) && (s.inc i).offersClosing then
        let n := Motion.begin (.step i t) v .closing none
        ((s.setSlot l j (some n)).reportStep i t v .moving).startClosing l j n true
      else s

/-! ## Stops -/

/-- A guard-stopped motion comes to rest (R179, R180): it gives its allowance back and returns to its wait state with
its slot, and asks for the allowance again only when the guard has cleared since. -/
def State.guardRest (s : State) (l j : Fin 4) (m : Motion) : State :=
  let v := m.valve
  let s := (s.giveBack v).modMotion l j fun m => { m with stop := none, stopTimer := none }
  let s := s.setMotion v (match m.dir with
    | .closing => .closeWait
    | .opening => .openWait)
  if (s.zone (s.zoneOf v)).stopped.contains ⟨v, m.owner⟩ then s else s.askAllowance v

/-- A stopped motion ends at rest (R173): after HOLD and RESTORE the step is reported WAITING, after ABANDON and
WITHDRAW the step is gone; SHADOW steps return to WAITING (R175). A motion stopped by HOLD stays on a guard's list
(R178). -/
def State.stopRest (s : State) (l j : Fin 4) (m : Motion) (k : StopKind) : State :=
  let v := m.valve
  let s := if k = .hold then s else s.leaveStopped v m.owner
  let s := s.endMotion l j v
  let s := if k = .hold ∨ k = .restore then s.reportOwner m .waiting else s
  match m.dir with
  | .closing => s.endShadows v .waiting
  | .opening => s

/-- A motion that was stopped is at rest (R173, R177, R179). -/
def State.atRest (s : State) (l j : Fin 4) (m : Motion) : State :=
  match m.stop with
  | none => s
  | some .guard => s.guardRest l j m
  | some .reversal => s.reverse l j m
  | some .hold => s.stopRest l j m .hold
  | some .restore => s.stopRest l j m .restore
  | some .abandon => s.stopRest l j m .abandon
  | some .withdraw => s.stopRest l j m .withdraw

/-- "Came to rest" for a valve ends the stop of its motion (R174). -/
def State.cameToRest (s : State) (v : Nat) : State :=
  match s.moverAt v with
  | none => s
  | some (l, j, m) => if s.motion v = .stopping then s.atRest l j m else s

/-- A motion is stopped for a reason (R173, R176, R179): in a phase that moves, a STOP is handed and the motion timer
cancelled; in a wait state it is at rest at once; in STOPPING the later reason replaces the earlier one. A reversal leaves the
guard's stopped list at once (R176); a motion stopped otherwise leaves it, if at all, when it ends (R178). -/
def State.stopMotion (s : State) (l j : Fin 4) (m : Motion) (k : StopKind) : State :=
  let v := m.valve
  match s.motion v with
  | .closeWait => (s.dropRequest v).atRest l j { m with stop := some k }
  | .openWait => (s.dropRequest v).atRest l j { m with stop := some k }
  | .stopping =>
    let s := if k = .reversal then s.leaveStopped v m.owner else s
    s.modMotion l j fun m => { m with stop := some k, reversal := if k = .reversal then m.reversal else none }
  | .closeRun | .closeSlow | .openSlow | .openRun =>
    ((s.modMotion l j fun m => { m with stop := some k, motionTimer := none }).hand l v .stop).setMotion v .stopping
  | .atRest => s
  | .stuck => s
  | .unresponsive => s
  | .localMode => s

/-- Every step of an incident that is the mover of its valve is stopped (R149, R151, R155, R134), line by line and slot
by slot, an order R173 leaves open (log 44). -/
def State.stopMovers (s : State) (i : Fin 16) (k : StopKind) : State :=
  match (s.inc i).tag with
  | none => s
  | some t =>
    s.allMotions.foldl (fun s (l, j, m) => if m.owner = .step i t then s.stopMotion l j m k else s) s

/-! ## Holds -/

/-- A hold gained may reverse an opening (R176): the mover is an opening motion in a phase of its opening, or stopped by
the guard; the incident is recorded and the motion stopped. -/
def State.reversalFor (s : State) (i : Fin 16) (v : Nat) : State :=
  match s.moverAt v with
  | none => s
  | some (l, j, m) =>
    let guardStop := decide (s.motion v = .stopping) && decide (m.stop = some .guard)
    if m.dir = .opening ∧ (s.motion v ∈ [MotionState.openWait, .openSlow, .openRun] ∨ guardStop = true) then
      let n := { m with reversal := (s.inc i).tag.map fun t => (i, t) }
      (s.setSlot l j (some n)).stopMotion l j n .reversal
    else s

/-- The executor is handed an outcome or a fault of a line: it hands again what it kept (R169), each MOVE timed anew
(R105). -/
def State.rehand (s : State) (l : Fin 4) : State := s.modLine l (·.rehand s.retime)

/-- Queued MOVEs of a valve that meet a test leave their line's queue as barred (R49, R52, R55): each is an outcome handed
to the executor, which hands again what it kept (R169). -/
def State.barQueued (s : State) (v : Nat) (p : Cmd → Bool) : State :=
  match s.valve? v with
  | none => s
  | some x =>
    let t := s.modLine x.st.line (·.dropMoves v p)
    if (t.line x.st.line).queue.length < (s.line x.st.line).queue.length then t.rehand x.st.line else t

/-- The command is an opening MOVE. -/
def Cmd.isOpening : Cmd → Bool
  | .move _ _ .opening _ => true
  | .move _ _ .closing _ => false
  | .stop => false

/-- A slot joins a valve's hold set (R49): the member is recorded, queued opening MOVEs leave as barred, a waiting
release is withdrawn, and an opening under way is reversed. -/
def State.joinHold (s : State) (i : Fin 16) (v : Nat) : State :=
  if (s.holds v).contains i then s
  else
    let s := s.modVol v fun x => { x with holds := setInsert x.holds i }
    ((s.barQueued v Cmd.isOpening).withdrawRelease v).reversalFor i v

/-- The slot joins the hold set of every step valve of its plan (R49, R135), in step order, which the spec leaves open; it fixes the
order in which the STOPs of several openings reversed at once (R176) join a line's queue (log 46). -/
def State.joinAll (s : State) (i : Fin 16) (valves : List Nat) : State := valves.foldl (fun s v => s.joinHold i v) s

/-! ## Faults of an actuator -/

/-- The cause with which a motion fails in a fault state (R171). -/
def faultCause : MotionState → FailCause
  | .stuck => .stuck
  | .localMode => .localMode
  | .unresponsive => .unresponsive
  | .atRest => .stuck
  | .closeRun => .stuck
  | .closeWait => .stuck
  | .closeSlow => .stuck
  | .openWait => .stuck
  | .openSlow => .stuck
  | .openRun => .stuck
  | .stopping => .stuck

/-- A valve becomes STUCK or LOCAL (R38, R39): the fault state replaces any other, a pending MOVE leaves the queue, a
waiting release is withdrawn (R61), and the motion fails with a cause. -/
def State.enterFault (s : State) (l : Fin 4) (v : Nat) (m : MotionState) (c : FailCause) : State :=
  let s := (s.setMotion v m).modLine l fun x => x.dropMoves v Cmd.isMove
  ((s.withdrawRelease v).failMover v c).rehand l

/-- A valve becomes UNRESPONSIVE (R36): the chain is broken, FRESH becomes STALE, its queue entries leave, and the fault
is handed. -/
def State.enterUnresponsive (s : State) (l : Fin 4) (v : Nat) : State :=
  let s := s.modVol v fun x => { x.breakChain.lapse with motion := .unresponsive }
  let s := s.modLine l (·.dropValve v)
  ((s.withdrawRelease v).failMover v .unresponsive).rehand l

/-! ## The surge guard -/

/-- The motions of a zone in a slow phase (R179). -/
def State.slowMotions (s : State) (z : Fin 8) : List (Fin 4 × Fin 4 × Motion) :=
  s.allMotions.filter fun (_, _, m) =>
    decide (s.zoneOf m.valve = z) && (decide (s.motion m.valve = .closeSlow) || decide (s.motion m.valve = .openSlow))

/-- The number of valves of a zone in CLOSE_SLOW or OPEN_SLOW (R12, R165). -/
def State.slowCount (s : State) (z : Fin 8) : Nat :=
  (s.valves.filter fun (v, x) =>
    decide (s.zoneOf v = z) && (decide (x.vol.motion = .closeSlow) || decide (x.vol.motion = .openSlow))).length

/-- A guard trips (R179): the zone is GUARDED with its tripping point, every slow phase is stopped and listed, and each
incident that owns such a step raises SURGE_EVENT once. The STOPs join the queues line by line and slot by slot, which R173 leaves
open (log 44). -/
def State.trip (s : State) (z : Fin 8) (p : Nat) : State :=
  let ms := s.slowMotions z
  let s := s.modZone z fun y =>
    { y with
      guard := .guarded
      tripping := some p
      clearCount := 0
      stopped := ms.map fun (_, _, m) => ⟨m.valve, m.owner⟩ }
  let s := ms.foldl (fun s (l, j, m) => s.stopMotion l j m .guard) s
  allSixteen.foldl (fun s i =>
    if ms.any fun (_, _, m) => match m.owner with
      | .step k t => decide (k = i) && s.tenancy i t
      | .release _ => false
    then s.raiseInc i .surgeEvent else s) s

/-- The slow speed of a listed motion is halved (R108): the step's figures, or the release's. -/
def State.halveStopped (s : State) (e : Stopped) : State :=
  match s.valve? e.valve with
  | none => s
  | some x =>
    match e.owner with
    | .step i t =>
      if s.tenancy i t then s.modStep i e.valve fun st => { st with figures := halve x.st st.figures } else s
    | .release _ =>
      match s.moverAt e.valve with
      | some (l, j, m) =>
        if m.owner = e.owner then s.modMotion l j fun m => { m with figures := m.figures.map (halve x.st) } else s
      | none => s

/-- A guard clears (R180): the listed motions are halved and leave the list, and those in a wait state ask for the
allowance again; the arbiter decides when the command's effects are settled. -/
def State.clearGuard (s : State) (z : Fin 8) : State :=
  let listed := (s.zone z).stopped
  let s := s.modZone z fun y => { y with guard := .clear, tripping := none, clearCount := 0, stopped := [] }
  let s := listed.foldl State.halveStopped s
  listed.foldl (fun s e =>
    if (s.motion e.valve = .closeWait ∨ s.motion e.valve = .openWait) ∧ (s.mover e.valve).map (·.owner) = some e.owner
    then s.askAllowance e.valve else s) s

/-- The surge guard takes a GOOD sample arrival (R178 to R180): point, its segment's rating and zone, pressure. -/
def State.guardSample (s : State) (p rating : Nat) (z : Fin 8) (pressure : Nat) : State :=
  match (s.zone z).guard with
  | .clear =>
    if pressure > rating ∧ 0 < (s.slowMotions z).length then s.trip z p else s
  | .guarded =>
    if (s.zone z).tripping ≠ some p then s
    else if pressure > rating * 9 / 10 then s.modZone z fun y => { y with clearCount := 0 }
    else if (s.zone z).clearCount + 1 ≥ 3 then s.clearGuard z
    else s.modZone z fun y => { y with clearCount := y.clearCount + 1 }

end Sys2Proof.Machine
end

