-- ==== Sys2Proof/Machine/Waves.lean ====
section
/-! DEFINITION. The transitions of an incident that several commands share (chapter 8): waves (R91, R158), entering
CLOSING (R135), the isolation test and the confirmation watch (R138 to R141), restore (R151, R152) and the freeing of a
slot (R128). -/

namespace Sys2Proof.Machine

open Sys2Proof

/-! ## Waves -/

/-- Group the steps that meet a test, in step order, into waves of four numbered from `base + 1` (R91); `n` counts
those already grouped. The other steps keep their wave. -/
def groupWaves (p : Step → Bool) (base : Nat) : Nat → List Step → List Step
  | _, [] => []
  | n, st :: rest =>
    if p st then { st with wave := base + 1 + n / Config.waveSize } :: groupWaves p base (n + 1) rest
    else st :: groupWaves p base n rest

/-- The number of waves for `w` steps (R91). -/
def waveCount (w : Nat) : Nat := ceilDiv w Config.waveSize

/-- A wave number, where the last grouping formed that wave. -/
def waveIf (last k : Nat) : Option Nat := if 1 ≤ k ∧ k ≤ last then some k else none

/-- A step in an end state of a closing or of a restore (R158). -/
def StepState.endsClosing : StepState → Bool
  | .closed => true
  | .skipped => true
  | .failed => true
  | .waiting => false
  | .moving => false
  | .shadow => false
  | .reopened => false
  | .retained => false

def StepState.endsRestore : StepState → Bool
  | .reopened => true
  | .retained => true
  | .failed => true
  | .waiting => false
  | .moving => false
  | .shadow => false
  | .closed => false
  | .skipped => false

/-- The restore order: the INTERIOR steps ascending, then the BOUNDARY steps descending (R151). -/
def restoreOrder (steps : List Step) : List Nat :=
  (steps.filter fun st => decide (st.role = .interior)).map (·.valve) ++
    ((steps.filter fun st => decide (st.role = .boundary)).map (·.valve)).reverse

/-- The restore wave of the valve at place `n` of the restore order, from 1 (R151). -/
def restoreWave (n : Nat) : Nat := n / Config.waveSize + 1

/-! ## Take-up -/

/-- A step is taken up for restore (R152): its slot leaves the hold set, it becomes WAITING as a restore step, and its
motion is handed and listed unless it is still the mover of its valve. -/
def State.takeUp (s : State) (i : Fin 16) (v : Nat) : State :=
  match (s.inc i).tag with
  | none => s
  | some t =>
    let s := s.leaveHold i v
    let s := s.modStep i v fun st => { st with state := .waiting, takenUp := true, cause := none }
    if (s.mover v).map (·.owner) = some (.step i t) then s else s.listRestore i t v

/-- The steps of a restore wave are taken up, in restore order (R151, R152). -/
def State.takeUpWave (s : State) (i : Fin 16) (w : Nat) : State :=
  let steps := (s.inc i).steps
  (restoreOrder steps).foldl (fun s v =>
    if steps.any fun st => decide (st.valve = v) && decide (st.wave = w) then s.takeUp i v else s) s

/-- Whether the incident's current wave advances now (R158). -/
def Incident.advances (x : Incident) : Bool :=
  match x.current, x.staged with
  | some c, some _ =>
    let members := x.steps.filter fun st => decide (st.wave = c)
    (decide (x.state = .closing) && members.all fun st => st.state.endsClosing) ||
      (decide (x.state = .restoring) && members.all fun st => st.state.endsRestore)
  | _, _ => false

/-- The staged wave becomes the current wave (R158); in RESTORING its steps are taken up. -/
def State.advance (s : State) (i : Fin 16) : State :=
  match (s.inc i).staged with
  | none => s
  | some d =>
    let s := s.modInc i fun x => { x with current := some d, staged := waveIf x.lastWave (d + 1) }
    if (s.inc i).state = .restoring then s.takeUpWave i d else s

/-! ## A slot becomes FREE -/

/-- A valve's volatile record without any claim of an incident slot: its hold (R50) and its waiting restore motions. -/
def ValveVol.forgetSlot (x : ValveVol) (i : Fin 16) : ValveVol :=
  { x with
    holds := x.holds.filter (· ≠ i)
    waiting := x.waiting.filter fun w => match w with
      | .restore k _ => decide (k ≠ i)
      | .release _ => true }

/-- A guard's stopped list without the steps of a tenancy that is gone (R178). -/
def Zone.forgetOwner (z : Zone) (o : Owner) : Zone := { z with stopped := z.stopped.filter (·.owner ≠ o) }

/-- A motion of a step whose tenancy ends keeps the step number it has (R45, R62). -/
def Motion.keepStepNo (m : Motion) (o : Owner) (x : Incident) : Motion :=
  if m.owner = o then { m with stepNo := x.stepNo m.valve } else m

/-- The motions of a line after the end of a tenancy, whose steps go on as motions without a plan. -/
def Line.keepStepNos (y : Line) (o : Owner) (x : Incident) : Line :=
  { y with slots := y.slots.map fun m => m.map (·.keepStepNo o x) }

/-- What a tenancy leaves when it ends: its steps leave the guards' stopped lists (R178), and a motion of one of them that
still holds a slot keeps its step number. -/
def State.forgetTenancy (s : State) (i : Fin 16) : State :=
  match (s.inc i).tag with
  | none => s
  | some t =>
    { s with
      zones := s.zones.map (·.forgetOwner (.step i t))
      lines := s.lines.map (·.keepStepNos (.step i t) (s.inc i)) }

/-- What happens when a slot becomes FREE (R128): the watch, the queue entry, the remaining holds, the waiting restore
motions, the listed motions of its steps (R178), and the record's plan, exclusion list, waves, failure and flags. -/
def State.freeSlot (s : State) (i : Fin 16) : State :=
  let s := (s.dropEntry i).forgetTenancy i
  let s : State := { s with valves := s.valves.map fun (v, x) => (v, { x with vol := x.vol.forgetSlot i }) }
  s.modInc i fun x =>
    { x with
      state := .free
      watch := .idle
      plan := none
      excl := []
      current := none
      staged := none
      lastWave := 0
      failure := none
      flags := 0 }

/-- The flag that ends a tenancy is raised with its tag as the slot becomes FREE (R156), and R128 then discards the flags raised, so
that the record of the FREE slot shows none; that the discard comes last is the model's choice (log 50). -/
def State.endTenancy (s : State) (i : Fin 16) (k : IncFlag) : State := (s.raiseInc i k).freeSlot i

/-! ## Closing -/

/-- The valves of an incident's steps, in step order. -/
def Incident.stepValves (x : Incident) : List Nat := x.steps.map (·.valve)

/-- The incident enters CLOSING (R135): its slot joins the hold set of every step valve; on the first entry its waves 1
and 2 become current and staged. The offers and the isolation test follow as the machine settles. -/
def State.enterClosing (s : State) (i : Fin 16) (firstEntry : Bool) : State :=
  let s := s.modInc i fun x => { x with state := .closing }
  let s := s.joinAll i (s.inc i).stepValves
  if firstEntry then s.modInc i fun x => { x with current := waveIf x.lastWave 1, staged := waveIf x.lastWave 2 } else s

/-- The incident enters AWAITING_CONCURRENCE and raises CONCURRENCE_NEEDED (R130, R148, R150). -/
def State.awaitConcurrence (s : State) (i : Fin 16) : State :=
  (s.modInc i fun x => { x with state := .awaitingConcurrence }).raiseInc i .concurrenceNeeded

/-- Concurrence is required and not given (R130, R132, R148). -/
def Incident.concOutstanding (x : Incident) : Bool := x.concRequired && x.concGiven.isNone

/-! ## Isolation and the watch -/

/-- The isolation test of R138. -/
def Incident.isolationHolds (x : Incident) : Bool :=
  decide (x.state = .closing) && x.steps.all fun st =>
    match st.role with
    | .boundary => decide (st.state = .closed) || decide (st.state = .skipped)
    | .interior => decide (st.state ≠ .moving) && decide (st.state ≠ .shadow)

/-- The points in the zone of an incident's plan (R139). -/
def State.zonePoints (s : State) (i : Fin 16) : List Point :=
  (s.points.filter fun (_, p) => (s.inc i).zoneList.contains p.asg.seg).map (·.2)

/-- The confirmation watch starts (R139): with no point in the zone it is ENDED at once and UNMONITORED raised;
otherwise it runs for the confirmation window of the burst segment's zone. -/
def State.startWatch (s : State) (i : Fin 16) : State :=
  if (s.zonePoints i).isEmpty then (s.modInc i fun x => { x with watch := .ended }).raiseInc i .unmonitored
  else
    let window := (s.zone (s.segOf ((s.inc i).burst.getD 0)).zone).record.window
    s.modInc i fun x => { x with watch := .running (s.now + window * 1000) }

/-- The incident enters ISOLATED (R138, R139). -/
def State.isolate (s : State) (i : Fin 16) : State :=
  let s := s.modInc i fun x => { x with state := .isolated, current := none, staged := none }
  (s.raiseInc i .isolated).startWatch i

/-- Whether a fresh point reads at or below the drained threshold of its own segment's zone (R140). -/
def State.readsDrained (s : State) (p : Point) : Bool :=
  match p.ring.getLast? with
  | none => false
  | some x => decide (x.pressure ≤ (s.zone (s.segOf p.asg.seg).zone).record.drained)

/-- The fresh points in the zone (R140, R141). -/
def State.freshPoints (s : State) (i : Fin 16) : List Point := (s.zonePoints i).filter (·.fresh)

/-- The isolation is drained (R140). -/
def State.drained (s : State) (i : Fin 16) : Bool :=
  !(s.freshPoints i).isEmpty && (s.freshPoints i).all s.readsDrained

/-- The incident enters CONFIRMED (R140 to R142). -/
def State.enterConfirmed (s : State) (i : Fin 16) : State :=
  (s.modInc i fun x => { x with state := .confirmed }).raiseInc i .confirmed

/-- The watch of one incident takes a sample arrival from a segment (R140). -/
def State.watchSample (s : State) (seg : Nat) (i : Fin 16) : State :=
  let x := s.inc i
  match x.watch with
  | .running _ =>
    if x.state = .isolated ∧ x.zoneList.contains seg ∧ s.drained i then
      (s.modInc i fun x => { x with watch := .ended }).enterConfirmed i
    else s
  | .idle => s
  | .ended => s

/-! ## Restore -/

/-- RESTORE's effect (R151): the watch and the marks are cleared, the movers stopped, the restore waves set, and the
steps of restore wave 1 taken up. -/
def State.beginRestore (s : State) (i : Fin 16) : State :=
  let s := (s.modInc i fun x =>
    { x with watch := x.watch.cancel, holdPending := false, heldFrom := none, replanDue := false }).dropEntry i
  let s := s.stopMovers i .restore
  let order := restoreOrder (s.inc i).steps
  let last := waveCount order.length
  let s := s.modInc i fun x =>
    { (x.modSteps fun l => l.map fun st =>
        { st with wave := restoreWave ((placeOf order st.valve).getD 0), takenUp := false }) with
      state := .restoring
      current := waveIf last 1
      staged := waveIf last 2
      lastWave := last }
  if last = 0 then s else s.takeUpWave i 1

end Sys2Proof.Machine
end

