-- ==== Sys2Proof/Machine/Settle.lean ====
section
/-! DEFINITION. What follows of itself on every event: the two arbiters and their grant tests (R153, R160 to R165), the
line rule (R172), wave advances, isolation and the end of a restore (R138, R154, R158), a line becoming STOPPED (R42),
and the next transaction of each line (R27 to R30, R52). `settle` lets them happen, one at a time in a fixed order,
until none is due. -/

namespace Sys2Proof.Machine

open Sys2Proof

/-! ## Waiting work and the order of the grant mode -/

/-- The kinds of work (R161). -/
inductive WorkKind where
  | close
  | open_
  | release
  deriving DecidableEq, Repr

def WorkKind.rank : WorkKind → Nat
  | .close => 0
  | .open_ => 1
  | .release => 2

/-- An item of work at an arbiter (R160, R161): its kind, its incident slot and tag (not used by a release), its valve,
the priority at this moment, its place in its incident's own order, and a release's arrival number. -/
structure Work where
  kind : WorkKind
  slot : Fin 16
  tag : Nat
  valve : Nat
  prio : Nat
  place : Nat
  arrival : Count32
  deriving DecidableEq, Repr

/-- Release arrival x is earlier than y (R161). -/
def earlier (x y : Count32) : Bool := decide (1 ≤ (y - x).toNat) && decide ((y - x).toNat ≤ 2147483647)

/-- The FIXED order (R161). -/
def fixedBefore (a b : Work) : Bool :=
  if a.prio ≠ b.prio then decide (b.prio < a.prio)
  else if a.kind.rank ≠ b.kind.rank then decide (a.kind.rank < b.kind.rank)
  else if a.kind = .release then earlier a.arrival b.arrival
  else if a.slot ≠ b.slot then decide (a.slot < b.slot)
  else decide (a.place < b.place)

/-- How far a slot comes after a rotation cursor, counting cyclically: the slot just after the cursor is 0 away (R161). -/
def afterCursor (cursor slot : Fin 16) : Nat := (slot.val + 15 - cursor.val) % 16

/-- The ROTATING order (R161): incident work before releases; the highest priority present; then the slot that comes
first after the cursor; then the incident's own order. -/
def rotatingBefore (cursor : Fin 16) (a b : Work) : Bool :=
  match a.kind, b.kind with
  | .release, .release => earlier a.arrival b.arrival
  | .release, _ => false
  | _, .release => true
  | _, _ =>
    if a.prio ≠ b.prio then decide (b.prio < a.prio)
    else if a.slot ≠ b.slot then decide (afterCursor cursor a.slot < afterCursor cursor b.slot)
    else decide (a.place < b.place)

/-- The item belongs to the tenancy a PREFERRED mode names. -/
def Work.isOf (w : Work) (i : Fin 16) (tag : Nat) : Bool :=
  decide (w.kind ≠ .release) && decide (w.slot = i) && decide (w.tag = tag)

/-- The order of the grant mode at an arbiter with a rotation cursor (R161). -/
def State.before (s : State) (cursor : Fin 16) (a b : Work) : Bool :=
  match s.grantMode with
  | .fixed => fixedBefore a b
  | .rotating => rotatingBefore cursor a b
  | .preferred i t =>
    if !s.tenancy i t then fixedBefore a b
    else if a.isOf i t && b.isOf i t then decide (a.place < b.place)
    else if a.isOf i t then true
    else if b.isOf i t then false
    else fixedBefore a b

/-- The first of some items under an order. -/
def firstBy (lt : Work → Work → Bool) : List Work → Option Work
  | [] => none
  | w :: rest =>
    match firstBy lt rest with
    | none => some w
    | some x => if lt x w then some x else some w

/-! ## The slot arbiter -/

/-- A step is offered for a closing grant (R136). -/
def Incident.closingOffer (x : Incident) (st : Step) : Bool :=
  x.offersClosing && decide (st.state = .waiting) && !st.takenUp && decide (x.current = some st.wave)

/-- A step is offered for a restore grant (R136). -/
def Incident.restoreOffer (x : Incident) (st : Step) : Bool :=
  decide (x.state = .restoring) && st.takenUp && decide (st.state = .waiting)

/-- A valve is on a line. -/
def State.onLine (s : State) (v : Nat) (l : Fin 4) : Bool :=
  match s.valve? v with
  | none => false
  | some x => decide (x.st.line = l)

/-- The offered steps of an incident as work, each with its place in the incident's own order (R161). -/
def State.incidentWork (s : State) (i : Fin 16) : List Work :=
  let x := s.inc i
  let order := restoreOrder x.steps
  x.steps.filterMap fun st =>
    let w (k : WorkKind) (n : Nat) : Work :=
      { kind := k, slot := i, tag := x.tag.getD 65535, valve := st.valve, prio := x.effPrio, place := n, arrival := 0 }
    if x.closingOffer st then some (w .close ((x.stepNo st.valve).getD 0))
    else if x.restoreOffer st then some (w .open_ ((placeOf order st.valve).getD 0))
    else none

/-- The waiting releases as work (R60, R160). -/
def State.releaseWork (s : State) : List Work :=
  s.valves.flatMap fun (v, x) => x.vol.waiting.filterMap fun w =>
    match w with
    | .release n => some { kind := .release, slot := 0, tag := 0, valve := v, prio := 0, place := 0, arrival := n }
    | .restore _ _ => none

/-- All work that waits on a line's arbiter (R160). -/
def State.lineWork (s : State) (l : Fin 4) : List Work :=
  (allSixteen.flatMap s.incidentWork ++ s.releaseWork).filter fun w => s.onLine w.valve l

/-- The mover of a valve makes a closing step its SHADOW (R163 test 1): a closing motion of another incident's step, or
a release toward CLOSED, in a phase of its closing. -/
def State.shadows (s : State) (w : Work) : Bool :=
  match s.mover w.valve with
  | none => false
  | some m =>
    decide (m.dir = .closing) && decide (m.owner ≠ .step w.slot w.tag) &&
      decide (s.motion w.valve ∈ [MotionState.closeRun, .closeWait, .closeSlow])

/-- An item is eligible (R160). -/
def State.eligible (s : State) (w : Work) : Bool :=
  match w.kind with
  | .close => (!s.hasMover w.valve || s.shadows w) && !(s.inc w.slot).excl.contains w.valve
  | .open_ => !s.hasMover w.valve
  | .release => !s.hasMover w.valve

/-- The line's arbiter may grant: the line is RUNNING and a slot is free (R160). -/
def State.mayGrant (s : State) (l : Fin 4) : Bool :=
  decide ((s.line l).state = .running) && (s.line l).freeSlot.isSome

/-- The item a line's arbiter takes next (R160, R161). -/
def State.nextWork (s : State) (l : Fin 4) : Option Work :=
  if s.mayGrant l then firstBy (s.before (s.line l).arbiter) ((s.lineWork l).filter s.eligible) else none

/-- A motion takes a free slot and becomes the mover of its valve (R159); what an earlier release said of the valve ends (log 41). -/
def State.takeSlot (s : State) (l j : Fin 4) (o : Owner) (v : Nat) (d : Dir) (f : Option Figures) : State × Motion :=
  let m := Motion.begin o v d f
  ((s.modVol v fun x => { x with released := false }).setSlot l j (some m), m)

/-- The line's cursor names the incident slot last granted a slot on the line (R159), whatever the grant mode (log 29). -/
def State.moveLineCursor (s : State) (l : Fin 4) (i : Fin 16) : State := s.modLine l fun x => { x with arbiter := i }

/-- The grant test of a closing step and what follows (R163): test 2 passes an item over, and such an item is not
eligible, so it does not come here. -/
def State.grantClosing (s : State) (l j : Fin 4) (w : Work) : State :=
  match s.valve? w.valve with
  | none => s
  | some x =>
    let report (r : StepReport) := s.reportStep w.slot w.tag w.valve r
    if s.shadows w then report .shadow
    else if x.vol.motion.isFault then report (.failed (faultCause x.vol.motion))
    else if s.isLocked w.valve && decide (x.vol.closedRun ≠ 2) then report (.failed .locked)
    else if x.vol.closedRun = 2 ∧ x.vol.motion = .atRest then report .closed
    else
      let (s, m) := (s.moveLineCursor l w.slot).takeSlot l j (.step w.slot w.tag) w.valve .closing none
      (s.reportStep w.slot w.tag w.valve .moving).startClosing l j m false

/-- The restore grant test of R153: what it settles without a slot, or none when the opening is granted. -/
def State.restoreTest (s : State) (v : Nat) (x : Valve) : Option StepReport :=
  if !x.vol.holds.isEmpty then some .retained
  else if s.isLocked v then some .retained
  else if x.st.normal = .closed then some .retained
  else if x.vol.accepted = some x.st.turns then some .retained
  else if x.vol.motion.isFault then some (.failed (faultCause x.vol.motion))
  else none

/-- The grant of a restore step (R164): its motion leaves the waiting motions whatever the test gives (R153). -/
def State.grantRestore (s : State) (l j : Fin 4) (w : Work) : State :=
  match s.valve? w.valve with
  | none => s
  | some x =>
    let s := s.dropWaiting w.valve (.restore w.slot w.tag)
    match s.restoreTest w.valve x with
    | some r => s.reportStep w.slot w.tag w.valve r
    | none =>
      let (s, m) := (s.moveLineCursor l w.slot).takeSlot l j (.step w.slot w.tag) w.valve .opening none
      (s.reportStep w.slot w.tag w.valve .moving).startOpening l m

/-- The grant of a release (R164, R107): timed at this moment with no burst and class NORMAL, it runs the closing or the
opening sequence as its target is 0 or the valve's turns. The target is the normal position as the record gives it at the grant, so a
VALVE_PUT that changed only the turns since RELEASE moves it, which the spec leaves open (log 36). -/
def State.grantRelease (s : State) (l j : Fin 4) (w : Work) : State :=
  match s.valve? w.valve with
  | none => s
  | some x =>
    let f := s.timing x.st none .normal
    let s := s.dropWaiting w.valve (.release w.arrival)
    match x.st.normal with
    | .closed =>
      let (s, m) := s.takeSlot l j (.release w.arrival) w.valve .closing (some f)
      s.startClosing l j m false
    | .opened =>
      let (s, m) := s.takeSlot l j (.release w.arrival) w.valve .opening (some f)
      s.startOpening l m

/-- A line's arbiter takes its next item and makes its grant test (R160). -/
def State.slotGrant? (s : State) (l : Fin 4) : Option State :=
  match s.nextWork l, (s.line l).freeSlot with
  | some w, some j =>
    some (match w.kind with
      | .close => s.grantClosing l j w
      | .open_ => s.grantRestore l j w
      | .release => s.grantRelease l j w)
  | _, _ => none

/-! ## The allowance arbiter -/

/-- A waiting allowance request as work (R161, R165). -/
def State.requestWork (s : State) (v : Nat) : Option Work :=
  match s.mover v with
  | none => none
  | some m =>
    match m.owner with
    | .step i t =>
      let x := s.inc i
      let opening := decide (m.dir = .opening)
      some
        { kind := if opening then .open_ else .close
          slot := i
          tag := t
          valve := v
          prio := x.effPrio
          place := if opening then (placeOf (restoreOrder x.steps) v).getD 0 else (x.stepNo v).getD 0
          arrival := 0 }
    | .release n => some { kind := .release, slot := 0, tag := 0, valve := v, prio := 0, place := 0, arrival := n }

/-- The request a zone's arbiter grants next (R165): the guard is CLEAR and the holders are fewer than the allowance. -/
def State.nextAllowance (s : State) (z : Fin 8) : Option Work :=
  let y := s.zone z
  if y.guard = .clear ∧ y.holders.length < y.record.allowance then
    firstBy (s.before y.arbiter) (y.requests.filterMap s.requestWork)
  else none

/-- The zone's cursor names the incident slot whose step was last granted the allowance, kept in the same way (R161,
log 29). -/
def State.moveZoneCursor (s : State) (z : Fin 8) (w : Work) : State :=
  match w.kind with
  | .close => s.modZone z fun y => { y with arbiter := w.slot }
  | .open_ => s.modZone z fun y => { y with arbiter := w.slot }
  | .release => s

def State.allowanceGrant? (s : State) (z : Fin 8) : Option State :=
  (s.nextAllowance z).map fun w => (s.moveZoneCursor z w).grantAllowance w.valve

/-! ## Incidents and lines of themselves -/

/-- A valve's line is not RUNNING. -/
def State.offLine (s : State) (v : Nat) : Bool :=
  match s.valve? v with
  | none => false
  | some x => decide ((s.line x.st.line).state ≠ .running)

/-- The closing steps offered at this moment on lines that are not RUNNING (R172), by incident slot and in step order. -/
def State.offeredOffLine (s : State) : List Work :=
  (allSixteen.flatMap s.incidentWork).filter fun w => decide (w.kind = .close) && s.offLine w.valve

/-- Each of some offered steps is reported FAILED with cause LINE_STOPPED (R172). -/
def State.failOffLine (s : State) (ws : List Work) : State :=
  ws.foldl (fun s w => s.reportStep w.slot w.tag w.valve (.failed .lineStopped)) s

/-- Every closing step offered at this moment on a line that is not RUNNING is reported FAILED (R172). -/
def State.lineRule? (s : State) : Option State :=
  if s.offeredOffLine.isEmpty then none else some (s.failOffLine s.offeredOffLine)

/-- The first incident whose current wave advances does so (R158). -/
def State.advance? (s : State) : Option State :=
  (allSixteen.find? fun i => (s.inc i).advances).map s.advance

/-- The first incident that is isolated enters ISOLATED (R138). -/
def State.isolate? (s : State) : Option State :=
  (allSixteen.find? fun i => (s.inc i).isolationHolds).map s.isolate

/-- Every step of the plan of an incident that restores, also while it is HELD, has ended (R154). -/
def Incident.restoreEnds (x : Incident) : Bool :=
  (decide (x.state = .restoring) || (decide (x.state = .held) && decide (x.heldFrom = some .restoring))) &&
    x.steps.all fun st => st.state.endsRestore

/-- The first incident whose restore has ended becomes FREE and raises RESTORED (R154). -/
def State.restoreEnd? (s : State) : Option State :=
  (allSixteen.find? fun i => (s.inc i).restoreEnds).map fun i => s.endTenancy i .restored

/-- A line becomes STOPPED (R42). A command that the executor kept because the queue was full goes with the queue, of which the spec
says nothing (log 45). -/
def State.becomeStopped (s : State) (l : Fin 4) : State :=
  let s := s.modLine l fun x =>
    { x with state := .stopped, txn := none, furtherDue := false, queue := [], kept := [] }
  let s : State :=
    { s with
      valves := s.valves.map fun (v, x) => (v, if x.st.line = l then { x with vol := x.vol.breakChain.lapse } else x)
      points := s.points.map fun (k, p) => (k, if p.asg.line = l then { p with fresh := false } else p) }
  s.raiseDev .lineChange

/-- The first STOPPING line without a held slot becomes STOPPED (R41, R42). -/
def State.stopped? (s : State) : Option State :=
  (allFour.find? fun l => decide ((s.line l).state = .stopping) && decide ((s.line l).heldSlots = 0)).map s.becomeStopped

/-! ## The next transaction of a line -/

/-- The next occupied slot after the rotation cursor, cyclically (R30). -/
def Line.nextFast (x : Line) : Option (Fin 4) :=
  [x.rotation + 1, x.rotation + 2, x.rotation + 3, x.rotation].find? fun j => (x.slots.get j).isSome

/-- A line polls and has no transaction in flight (R24, R27). -/
def Line.needsTxn (x : Line) : Bool := decide (x.state ≠ .stopped) && x.txn.isNone && !x.nodes.isEmpty

/-- The address of a valve's actuator. -/
def State.addrOf (s : State) (v : Nat) : Nat := ((s.valve? v).map (·.st.addr)).getD 0

/-- A barred MOVE leaves the queue and is returned to the executor (R52, R169): a closing motion fails with LOCKED. -/
def State.returnBarred (s : State) (l : Fin 4) (e : Entry) (d : Dir) : State :=
  let s := s.modLine l fun x => { x with queue := x.queue.drop 1 }
  match d with
  | .opening => s.rehand l
  | .closing => (s.failMover e.valve .locked).rehand l

/-- A transaction is put on the wire. -/
def State.send (s : State) (l : Fin 4) (addr : Nat) (k : TxnKind) (visit : Bool) : State :=
  s.modLine l fun x => { x with txn := some { addr := addr, kind := k, visit := visit, gone := false } }

/-- A poll visit to the node at the cursor: a QUERY for an actuator, a SAMPLE for a sensor (R23, R27). -/
def State.pollVisit (s : State) (l : Fin 4) : State :=
  match (s.line l).cursor.orElse fun _ => tabFirst (s.line l).nodes with
  | none => s
  | some a =>
    let s := s.modLine l fun x => { x with cursor := some a, furtherDue := false }
    s.send l a (if a < 200 then .query else .sample) true

/-- The line takes its next transaction (R29): after a poll visit the oldest queued command, else a fast query of a
moving valve, else the next poll visit. A barred MOVE is passed over (R52). -/
def State.nextTxn (s : State) (l : Fin 4) : State :=
  let x := s.line l
  if !x.furtherDue then s.pollVisit l
  else match x.queue with
    | e :: _ =>
      (match e.cmd with
        | .move _ _ d _ => if s.bars e.valve d then s.returnBarred l e d else s.send l (s.addrOf e.valve) .move false
        | .stop => s.send l (s.addrOf e.valve) .stop false)
    | [] =>
      match x.nextFast with
      | none => s.pollVisit l
      | some j =>
        match x.slots.get j with
        | none => s.pollVisit l
        | some m =>
          (s.modLine l fun x => { x with rotation := j }).send l (s.addrOf m.valve) .query false

/-- The first line that polls and has no transaction in flight takes one. -/
def State.transact? (s : State) : Option State := (allFour.find? fun l => (s.line l).needsTxn).map s.nextTxn

/-! ## Settling -/

/-- The first thing that is due, in this order: a wave advance, the line rule, a slot grant, an isolation, the end of a
restore, an allowance grant, a line that becomes STOPPED, a transaction. -/
def State.due? (s : State) : Option State :=
  s.advance?
    |>.orElse (fun _ => s.lineRule?)
    |>.orElse (fun _ => allFour.findSome? s.slotGrant?)
    |>.orElse (fun _ => s.isolate?)
    |>.orElse (fun _ => s.restoreEnd?)
    |>.orElse (fun _ => allEight.findSome? s.allowanceGrant?)
    |>.orElse (fun _ => s.stopped?)
    |>.orElse (fun _ => s.transact?)

/-- Let at most `n` things that are due happen; the orphan count follows each (R59, notes/assumptions/26.md). -/
def settleFor : Nat → State → State
  | 0, s => s
  | n + 1, s =>
    match s.due? with
    | none => s
    | some t => settleFor n t.refreshOrphans

/-- More than any event can make due one after another (notes/assumptions/9.md). -/
def settleBound : Nat := 4096

/-- The orphan count follows a command's own effect (R59), and everything due happens. -/
def State.settle (s : State) : State := settleFor settleBound s.refreshOrphans

/-- The end of a command that concerns the field side: everything due happens, and the transmitters go on (R187). -/
def State.finish (s : State) : State := s.settle.kickPorts

end Sys2Proof.Machine
end

