-- ==== Sys2Proof/Machine/Planner.lean ====
section
/-! DEFINITION. The isolation planner (chapter 5): the computation as a machine that takes one small action at a time,
each reading the state as it stands then (R76), and the completion that re-checks, requeues or delivers (R88 to R93,
R130, R131, R146 to R148). -/

namespace Sys2Proof.Machine

open Sys2Proof

/-! ## Zone search (R77 to R81) -/

/-- The far side of a valve from one of its sides; none is EXTERNAL (R78). -/
def ValveStatic.farSide (st : ValveStatic) (near : Nat) : Option Nat := if st.sideA = near then st.sideB else some st.sideA

/-- How an examined valve is classified (R79). -/
inductive Found where
  | unusable
  | held
  | boundary (cls : Class) (concurrence : Bool)
  deriving DecidableEq, Repr

/-- The states of an existing step that make its valve a held boundary (R79, R89). -/
def StepState.isSettled : StepState → Bool
  | .closed => true
  | .skipped => true
  | .shadow => true
  | .moving => true
  | .waiting => false
  | .failed => false
  | .reopened => false
  | .retained => false

/-- The incident has an existing step for the valve that is CLOSED, SKIPPED, SHADOW or MOVING. -/
def Incident.holdsSettled (x : Incident) (v : Nat) : Bool := ((x.stepFor v).map (·.state.isSettled)).getD false

/-- The burst segment of a computation: the zone's first member (R77). -/
def Comp.burst (c : Comp) : Option Nat := c.zone.head?

/-- The classification of a valve that is examined and not enclosed (R79). -/
def State.classify (s : State) (c : Comp) (v : Nat) (x : Valve) : Found :=
  let a := s.valveAction v x.st c.burst
  if (s.inc c.slot).excl.contains v then .unusable
  else if decide (c.kind = .replan) && (s.inc c.slot).holdsSettled v then .held
  else if a.exclude then .unusable
  else if s.usable c.slot v then .boundary a.cls a.concurrence
  else .unusable

/-- An unusable valve is passed through to its far side (R80). -/
def Comp.passThrough (c : Comp) (v : Nat) (far : Option Nat) : Comp :=
  match far with
  | none =>
    { c with
      edgeCount := c.edgeCount + 1
      edgeValves := if c.edgeValves.length < Config.maxEdgeValves then c.edgeValves ++ [v] else c.edgeValves }
  | some n =>
    if c.zone.length ≥ Config.maxZone then { c with stage := .failed .zoneLimit }
    else { c with zone := c.zone ++ [n], stack := n :: c.stack }

/-- A boundary or held boundary valve joins the boundary list (R81). -/
def Comp.addStep (c : Comp) (p : PlanStep) : Comp :=
  if c.boundary.length ≥ Config.maxSteps then { c with stage := .failed .stepLimit }
  else { c with boundary := c.boundary ++ [p] }

/-- A valve of the popped segment's list is examined (R78). -/
def State.examine (s : State) (c : Comp) (near v : Nat) : Comp :=
  if c.examined.contains v then c
  else
    let c := { c with examined := v :: c.examined }
    match s.valve? v with
    | none => c
    | some x =>
      let far := x.st.farSide near
      if (far.map c.zone.contains).getD false then c
      else match s.classify c v x with
        | .unusable => c.passThrough v far
        | .held => c.addStep { valve := v, held := true, cls := .normal, concurrence := false, figures := none }
        | .boundary k q => c.addStep { valve := v, held := false, cls := k, concurrence := q, figures := none }

/-- One action of the zone search (R78). -/
def State.searchAct (s : State) (c : Comp) : Comp :=
  match c.cur with
  | some (n, v :: rest) => s.examine { c with cur := some (n, rest) } n v
  | _ =>
    match c.stack with
    | [] => { c with cur := none, stage := .trim }
    | n :: rest => { c with stack := rest, cur := some (n, (s.segOf n).valves) }

/-- Both sides of a valve are members of the zone (R82). -/
def State.inside (s : State) (zone : List Nat) (v : Nat) : Bool :=
  match s.valve? v with
  | none => false
  | some x => zone.contains x.st.sideA && (x.st.sideB.map zone.contains).getD false

/-- The boundary list in final form (R82). -/
def State.trim (s : State) (c : Comp) : Comp :=
  { c with stage := .feeds, boundary := c.boundary.filter fun p => !s.inside c.zone p.valve }

/-! ## Stranded analysis (R83 to R85) -/

/-- The highest protection class over some segments (R85). -/
def State.protectionOver (s : State) (segs : List Nat) : Protection :=
  segs.foldl (fun p n => p.higher (s.segOf n).protection) .none

/-- The analysis ends with the segments it finds stranded (R85). -/
def State.endAnalysis (s : State) (c : Comp) (stranded : List Nat) : Comp :=
  { c with stage := .policy, cur := none, stranded := stranded, protection := s.protectionOver (c.zone ++ stranded) }

/-- The analysis begins from the feeds outside the zone; an empty feed list makes none (R83, R84 item 1). -/
def State.startFeeds (s : State) (c : Comp) : Comp :=
  if s.feeds.isEmpty then s.endAnalysis { c with noFeeds := true } []
  else
    let start := s.feeds.filter fun n => !c.zone.contains n
    { c with stage := .stranded, cur := none, visited := start, spill := start.reverse }

/-- A valve counts as closed for the stranded analysis (R83). -/
def Comp.countsClosed (c : Comp) (v : Nat) (x : Valve) : Bool :=
  c.boundary.any (·.valve = v) || !x.vol.holds.isEmpty || decide (x.vol.accepted = some 0) ||
    (decide (x.vol.status = .unknown) && decide (x.st.normal = .closed))

/-- The far side of a valve that passes is visited, and pushed where the spill stack has room (R84 item 2). -/
def Comp.visit (c : Comp) (n : Nat) : Comp :=
  if c.zone.contains n || c.visited.contains n then c
  else
    let c := { c with visited := n :: c.visited }
    if c.spill.length ≥ Config.maxSpill then { c with spillFlag := true } else { c with spill := n :: c.spill }

/-- A valve is gone through (R84 item 2). -/
def State.goThrough (s : State) (c : Comp) (near v : Nat) : Comp :=
  match s.valve? v with
  | none => c
  | some x =>
    if c.countsClosed v x then c
    else match x.st.farSide near with
      | none => c
      | some n => c.visit n

/-- A rescan pass (R84 item 5). -/
def State.rescan (s : State) (c : Comp) : Comp :=
  let due := (s.segs.map (·.1)).filter fun n => c.visited.contains n && !c.explored.contains n
  { c with
    spillFlag := decide (Config.maxSpill < due.length)
    rescans := min 65535 (c.rescans + 1)
    spill := (due.take Config.maxSpill).reverse }

/-- One action of the stranded analysis (R84). -/
def State.strandedAct (s : State) (c : Comp) : Comp :=
  match c.cur with
  | some (n, v :: rest) => s.goThrough { c with cur := some (n, rest) } n v
  | _ =>
    match c.spill with
    | n :: rest => { c with spill := rest, explored := n :: c.explored, cur := some (n, (s.segOf n).valves) }
    | [] =>
      if c.spillFlag then s.rescan { c with cur := none }
      else s.endAnalysis c ((s.segs.map (·.1)).filter fun n => !c.zone.contains n && !c.visited.contains n)

/-! ## Plan-stage policy and step timing (R86, R87) -/

/-- The value of a plan-stage test (R86, R112); a valve-stage test has none and reads 0. -/
def State.planTest (s : State) (c : Comp) (t : Fin 15) : Nat :=
  match t.val with
  | 8 => c.zone.length
  | 9 => c.boundary.length
  | 10 => c.stranded.length
  | 11 => c.protection.code
  | 12 => (s.segOf (c.burst.getD 0)).zone.val
  | 13 => ((s.inc c.slot).link.map linkCode).getD 0
  | 14 => if c.edgeCount = 0 then 0 else 1
  | _ => 0

/-- The plan-stage evaluation and the combination (R86, R87, R118, R119). -/
def State.planPolicy (s : State) (c : Comp) : Comp :=
  let w := winner s.rules s.groups .plan (s.planTest c)
  let a := action s.rules s.groups w
  { c with
    stage := .timing
    group := w
    cls := c.boundary.foldl (fun k p => if p.held then k else k.stricter p.cls) a.cls
    concurrence := a.concurrence || c.boundary.any (·.concurrence)
    prio := effectivePrio a.mode a.value (s.inc c.slot).reqPrio
    boundary := c.boundary.map fun p => if p.held then p else { p with cls := p.cls.stricter a.cls } }

/-- Time the first step that has no figures yet; held boundaries are passed over (R87). None when all are timed. -/
def State.timeNext (s : State) (burst : Option Nat) : List PlanStep → Option (List PlanStep)
  | [] => none
  | p :: rest =>
    if p.held || p.figures.isSome then (s.timeNext burst rest).map (p :: ·)
    else match s.valve? p.valve with
      | none => (s.timeNext burst rest).map (p :: ·)
      | some x => some ({ p with figures := some (s.timing x.st burst p.cls) } :: rest)

/-- One action of step timing (R87). -/
def State.timingAct (s : State) (c : Comp) : Comp :=
  match s.timeNext c.burst c.boundary with
  | none => { c with stage := .ready }
  | some l => { c with boundary := l }

/-! ## The computation -/

/-- One action of a computation; at its last stage it waits for its end (R75). -/
def State.act (s : State) (c : Comp) : Comp :=
  match c.stage with
  | .search => s.searchAct c
  | .trim => s.trim c
  | .feeds => s.startFeeds c
  | .stranded => s.strandedAct c
  | .policy => s.planPolicy c
  | .timing => s.timingAct c
  | .ready => c
  | .failed _ => c

/-- One action of the planner, while a computation is in progress. -/
def State.planMore (s : State) : State :=
  { s with planner := { s.planner with comp := s.planner.comp.map s.act } }

/-- The computation is at its end: complete, or failed in the search. -/
def CompStage.isEnd : CompStage → Bool
  | .ready => true
  | .failed _ => true
  | .search => false
  | .trim => false
  | .feeds => false
  | .stranded => false
  | .policy => false
  | .timing => false

/-- A computation runs on to its end; at most `n` actions are taken. -/
def State.runOut (s : State) : Nat → Comp → Comp
  | 0, c => c
  | n + 1, c => if c.stage.isEnd then c else s.runOut n (s.act c)

/-- More actions than a computation over the largest model takes: 64 segments of 12 valves in the search, 1,023 in the
analysis with as many rescans at most, 48 timings (notes/assumptions/9.md). -/
def actBound : Nat := 20000

/-! ## Completion (R88 to R93) -/

/-- The re-check of a step (R89): the state it takes, or none where it fails. -/
def State.recheck (s : State) (i : Fin 16) (p : PlanStep) : Option StepState :=
  let x := s.inc i
  if p.held && x.holdsSettled p.valve && !x.excl.contains p.valve then (x.stepFor p.valve).map (·.state)
  else if s.accepted p.valve = some 0 ∧ s.motion p.valve = .atRest then some .skipped
  else if s.usable i p.valve then some .waiting
  else none

/-- The exclusion list with the failing valves added in step order, and whether all found room (R90). -/
def addFailing : List Nat → List Nat → List Nat × Bool
  | excl, [] => (excl, true)
  | excl, v :: rest =>
    if excl.contains v then addFailing excl rest
    else if excl.length ≥ Config.maxExcl then (excl, false)
    else addFailing (excl ++ [v]) rest

/-- The figures of a step that has none of its own: a held boundary, whose existing step keeps its figures (R87). -/
def Figures.none : Figures := { slow := 0, runEst := 0, slowEst := 0, surgeRisk := false }

/-- A step of the delivered plan (R91, R95): a held boundary shows the class and figures its existing step keeps. -/
def Incident.deliver (x : Incident) (p : PlanStep) (state : StepState) : Step :=
  let old := x.stepFor p.valve
  { valve := p.valve
    role := .boundary
    state := state
    wave := 0
    cls := if p.held then (old.map (·.cls)).getD .normal else p.cls
    figures := p.figures.getD ((old.map (·.figures)).getD Figures.none)
    takenUp := false
    cause := none }

/-- A WAITING step takes a wave (R91); a held boundary is never WAITING when it passed as such. -/
def Step.isWaiting (st : Step) : Bool := decide (st.state = .waiting)

/-- The plan a computation delivers (R94), with the re-checked steps in waves (R91). -/
def Comp.plan (c : Comp) (steps : List Step) : Plan where
  zone := c.zone
  steps := groupWaves Step.isWaiting 0 0 steps
  stranded := c.stranded.take Config.maxStranded
  strandedCount := c.stranded.length
  more := decide (Config.maxStranded < c.stranded.length)
  protection := c.protection
  openEdge := decide (c.edgeCount ≠ 0)
  strandsProtected := decide (c.protection ≠ .none)
  noFeeds := c.noFeeds
  edgeValves := c.edgeValves
  edgeCount := c.edgeCount
  rescans := c.rescans
  group := c.group
  concurrence := c.concurrence
  cls := c.cls
  prio := c.prio
  kind := c.kind

/-- The flags a delivered or merged plan raises (R130, R148). -/
def Plan.flags (p : Plan) : List IncFlag :=
  [.planned] ++ (if p.openEdge then [.openEdge] else []) ++ (if p.strandsProtected then [.strandsProtected] else [])

/-- A plan reaches an incident in PLANNING (R130). -/
def State.deliverFirst (s : State) (i : Fin 16) (p : Plan) : State :=
  let s := s.modInc i fun x =>
    { x with
      plan := some p
      concRequired := p.concurrence
      effPrio := p.prio
      lastWave := waveCount (p.steps.filter Step.isWaiting).length }
  let s := s.raiseIncs i p.flags
  if (s.inc i).concOutstanding then s.awaitConcurrence i else s.enterClosing i true

/-! ## The merge (R146 to R148) -/

/-- What the merge makes of an existing step, given the new plan's steps (R146); none where it is dropped. -/
def mergeStep (fresh : List Step) (st : Step) : Option Step :=
  match st.state, fresh.find? (·.valve = st.valve) with
  | .failed, _ => none
  | .waiting, none => none
  | .waiting, some n => some { st with role := .boundary, state := n.state }
  | _, some _ => some { st with role := .boundary }
  | _, none => some { st with role := .interior }

/-- The existing steps that stay. -/
def Incident.kept (x : Incident) (fresh : List Step) : List Step := x.steps.filterMap (mergeStep fresh)

/-- The steps of the new plan whose valve has no existing step. -/
def Incident.added (x : Incident) (fresh : List Step) : List Step :=
  (fresh.filter fun n => (x.stepFor n.valve).isNone).map fun n => { n with role := .boundary, wave := 0 }

/-- The valves of the steps the merge drops. -/
def Incident.dropped (x : Incident) (fresh : List Step) : List Nat :=
  (x.steps.filter fun st => (mergeStep fresh st).isNone).map (·.valve)

/-- A step that keeps a wave busy (R147). -/
def StepState.busy : StepState → Bool
  | .waiting => true
  | .moving => true
  | .shadow => true
  | .closed => false
  | .skipped => false
  | .failed => false
  | .reopened => false
  | .retained => false

/-- The waves rebuilt after a merge and its holds (R147): the WAITING steps that are not members of the current wave are grouped
from the next number on. -/
def Incident.rebuildWaves (x : Incident) : Incident :=
  let c := x.current.getD 0
  let member (st : Step) : Bool := decide (c ≠ 0) && decide (st.wave = c)
  let outside (st : Step) : Bool := st.isWaiting && !member st
  let last := c + waveCount (x.steps.filter outside).length
  let moveOn := decide (c = 0) || !(x.steps.any fun st => member st && st.state.busy)
  { x.modSteps (groupWaves outside c 0) with
    current := if moveOn then waveIf last (c + 1) else some c
    staged := if moveOn then waveIf last (c + 2) else waveIf last (c + 1)
    lastWave := last }

/-- The end of a merge (R148). -/
def State.endMerge (s : State) (i : Fin 16) (p : Plan) : State :=
  let s := s.raiseIncs i p.flags
  if (s.inc i).holdPending then
    s.modInc i fun x => { x with holdPending := false, state := .held, heldFrom := some .closing }
  else if (s.inc i).concOutstanding then s.awaitConcurrence i
  else s.enterClosing i false

/-- A step that the merge drops is gone and leaves the guard's stopped list (R178). -/
def State.dropListed (s : State) (i : Fin 16) (v : Nat) : State :=
  match (s.inc i).tag with
  | none => s
  | some t => s.leaveStopped v (.step i t)

/-- A plan reaches an incident in REPLANNING (R146 to R148). The holds of the new steps are part of the merge and come before the
waves are rebuilt (R147), so a step that a reversal makes MOVING or CLOSED at once (R176, R177) is not grouped. The new plan's items
stand in the record by then, which the text leaves to inference (log 47). -/
def State.merge (s : State) (i : Fin 16) (p : Plan) : State :=
  let x := s.inc i
  let steps := x.kept p.steps ++ x.added p.steps
  if steps.length > Config.maxSteps then
    s.enterPlanFailed i
      { reason := .stepLimit, zoneCount := some p.zone.length, stepCount := some steps.length, excl := [] }
  else
    let gone := x.dropped p.steps
    let come := (x.added p.steps).map (·.valve)
    let s := s.modInc i fun x =>
      { x with plan := some { p with steps := steps }, concRequired := p.concurrence, effPrio := p.prio }
    let s := gone.foldl (fun s v => (s.leaveHold i v).dropListed i v) s
    ((s.joinAll i come).modInc i Incident.rebuildWaves).endMerge i p

/-- A plan reaches its incident; in any other state than PLANNING or REPLANNING it is discarded (R131). -/
def State.deliverPlan (s : State) (i : Fin 16) (p : Plan) : State :=
  match (s.inc i).state with
  | .planning => s.deliverFirst i p
  | .replanning => s.merge i p
  | _ => s

/-- A failure reaches its incident, with the items of R93; in any other state it is discarded (R131). -/
def State.deliverFailure (s : State) (c : Comp) (r : FailReason) : State :=
  let x := s.inc c.slot
  if x.state = .planning ∨ x.state = .replanning then
    s.enterPlanFailed c.slot
      { reason := r, zoneCount := some c.zone.length, stepCount := some c.boundary.length, excl := x.excl }
  else s

/-- The slot joins the tail of the planner queue again (R90, R92), which holds it once at most (R74). -/
def State.requeue (s : State) (i : Fin 16) : State :=
  if s.planner.queue.contains i then s
  else { s with planner := { s.planner with queue := s.planner.queue ++ [i] } }

/-- A computation whose search succeeded is re-checked, then requeued or delivered (R89 to R92). -/
def State.settleComp (s : State) (c : Comp) : State :=
  let checked := c.boundary.map fun p => (p, s.recheck c.slot p)
  let failing := (checked.filter (·.2.isNone)).map (·.1.valve)
  if failing.isEmpty then
    if c.again then s.requeue c.slot
    else s.deliverPlan c.slot (c.plan (checked.map fun (p, st) => (s.inc c.slot).deliver p (st.getD .waiting)))
  else
    let (excl, room) := addFailing (s.inc c.slot).excl failing
    let s := s.modInc c.slot fun x => { x with excl := excl }
    if room then s.requeue c.slot else s.deliverFailure c .exclusionsFull

/-- The end of a computation (R88): discarded where its tenancy has gone; a failure of the search is delivered (R93). -/
def State.endComputation (s : State) (c : Comp) : State :=
  if !s.tenancy c.slot c.tag then s
  else match c.stage with
    | .failed r => s.deliverFailure c r
    | _ => s.settleComp c

/-- COMPUTATION_END: the computation in progress runs out, ends, and the planner begins its next (R75, R88). With no
computation in progress there is none to end. -/
def execComputationEnd (s : State) : Res :=
  match s.planner.comp with
  | none => .next s
  | some c =>
    let c := s.runOut actBound c
    let s : State := { s with planner := { s.planner with comp := none } }
    .next (s.endComputation c).beginComp.finish

end Sys2Proof.Machine
end

