-- ==== Sys2Proof/Machine/Reads.lean ====
section
/-! DEFINITION. The reads (R21, R44, R62, R72, R96, R125, R157, R178, R191 to R193, R202). Each reply carries its items in
the order its rule lists them, encoded by R184 (notes/assumptions/12.md gives what R184 leaves open). A read changes
nothing but its own link's transmitter; READ_LINK also clears the error count it returns. -/

namespace Sys2Proof.Machine

open Sys2Proof

/-- A read: taken from any link, it answers DONE with items, or refuses. -/
def State.readOut (s : State) (l : Link) (r : Out ⊕ List Item) : State :=
  match r with
  | .inl o => s.refuse l o
  | .inr items => s.reply l .done items

/-! ## READ_DEVICE -/

/-- The grant mode with its slot and tag (R162, R191). -/
def GrantMode.items : GrantMode → List Item
  | .fixed => [u8 0, opt8 none, opt16 none]
  | .rotating => [u8 1, opt8 none, opt16 none]
  | .preferred i t => [u8 2, u8 i.val, u16 t]

/-- A store write is in progress or waiting (R18). -/
def Store.busy (x : Store) : Bool := x.active.isSome || !x.due.isEmpty

def State.slotsInUse (s : State) : Nat := (allSixteen.filter fun i => (s.inc i).inUse).length

def State.deviceItems (s : State) (l : Link) : List Item :=
  [u8 s.device.code, u32 s.revision.toNat, u8 (s.port l).device.toNat, u16 s.orphanCount, u8 s.slotsInUse,
    yesNo s.plannerBusy, yesNo s.store.busy] ++ s.grantMode.items ++ listOf (fun n => [u16 n]) s.feeds

/-- READ_DEVICE (R191). -/
def execReadDevice (h : Hdr) (s : State) : Res :=
  s.onRequest (.readDevice h) h true fun s => s.readOut h.link (.inr (s.deviceItems h.link))

/-! ## READ_SEG -/

def Seg.items (x : Seg) (feed : Bool) : List Item :=
  [yesNo true, u8 x.use.code, u8 x.zone.val, u16 x.length, u16 x.celerity, u16 x.rating, u16 x.diameter,
    u8 x.protection.code] ++ listOf (fun v => [u16 v]) x.valves ++ [yesNo feed]

/-- READ_SEG (R21): an undefined segment gives the defined flag alone. -/
def execReadSeg (h : Hdr) (seg : Nat) (s : State) : Res :=
  s.onRequest (.readSeg h seg) h true fun s => s.readOut h.link <|
    if seg ≥ Config.maxSegs then .inl .badIndex
    else match s.seg? seg with
      | none => .inr [yesNo false]
      | some x => .inr (x.items (s.feeds.contains seg))

/-! ## READ_VALVE -/

def ValveStatic.items (x : ValveStatic) : List Item :=
  [u16 x.sideA, opt16 x.sideB, u8 x.line.val, u8 x.addr, u16 x.size, u16 x.turns, u8 x.maxSpeed, u8 x.minSpeed,
    u16 x.velocity, u8 x.normal.code, u8 x.mark.code]

/-- The kind, slot, tag and step number of a step motion (R62). -/
def stepItems (i : Fin 16) (t : Nat) (n : Option Nat) : List Item := [u8 1, u8 i.val, u16 t, opt8 n]

/-- The step number shown for a mover (R62): the step's place in the plan as it stands, also after a merge has renumbered it;
once the tenancy has ended, the number kept with the motion (log 28). -/
def State.moverStepNo (s : State) (i : Fin 16) (t : Nat) (m : Motion) : Option Nat :=
  if s.tenancy i t then (s.inc i).stepNo m.valve else m.stepNo

/-- The items of a release motion, or of no motion, in place of a step's. -/
def motionKind (k : Nat) : List Item := [u8 k, opt8 none, opt16 none, opt8 none]

/-- The figures of a release motion that is the mover (R107). -/
def figureItems : Option Figures → List Item
  | none => [opt8 none, opt32 none, opt32 none, opt8 none]
  | some f => [u8 f.slow, u32 f.runEst, u32 f.slowEst, yesNo f.surgeRisk]

/-- The mover (R62): kind none 0, step 1, release 2. -/
def State.moverItems (s : State) (v : Nat) : List Item :=
  match s.mover v with
  | none => motionKind 0 ++ figureItems none
  | some m =>
    match m.owner with
    | .step i t => stepItems i t (s.moverStepNo i t m) ++ figureItems none
    | .release _ => motionKind 2 ++ figureItems m.figures

def State.waitingItems (s : State) (v : Nat) : Waiting → List Item
  | .restore i t => stepItems i t (if s.tenancy i t then (s.inc i).stepNo v else none)
  | .release _ => motionKind 2

def LockEntry.items (e : LockEntry) : List Item := [u16 e.valve, u8 (linkCode e.link), u16 e.position]

/-- The miss count the line keeps for a valve's node (R22, R62). -/
def State.missCount (s : State) (st : ValveStatic) : Nat := (((s.line st.line).node? st.addr).map (·.misses)).getD 0

def State.volItems (s : State) (v : Nat) (x : ValveVol) : List Item :=
  [u8 x.motion.code, opt16 x.reported, opt16 x.accepted, u8 x.agreement, u8 x.status.code] ++ s.moverItems v ++
    listOf (s.waitingItems v) x.waiting ++ listOf (fun i => [u8 i.val, opt16 (s.inc i).tag]) x.holds

/-- The items of a defined valve: the static part (R21), then R62's in R62's order, where R21 names the disposition before the hold
set (log 12). -/
def State.valveItems (s : State) (v : Nat) (x : Valve) : List Item :=
  [yesNo true] ++ x.st.items ++ [u8 (s.zoneOf v).val] ++ s.volItems v x.vol ++
    [u8 (s.missCount x.st), u8 (s.dispositionOf v x).code] ++
    ((s.lockOf v).map LockEntry.items).getD [opt16 none, opt8 none, opt16 none]

/-- READ_VALVE (R21, R62). -/
def execReadValve (h : Hdr) (valve : Nat) (s : State) : Res :=
  s.onRequest (.readValve h valve) h true fun s => s.readOut h.link <|
    if valve ≥ Config.maxValves then .inl .badIndex
    else match s.valve? valve with
      | none => .inr [yesNo false]
      | some x => .inr (s.valveItems valve x)

/-! ## READ_ZONE -/

def Zone.items (z : Zone) : List Item :=
  [u16 z.record.nominal, u8 z.record.drained, u16 z.record.window, u8 z.record.allowance, u8 z.guard.code,
    opt8 z.tripping, u8 z.clearCount, u8 z.holders.length, u8 z.requests.length]

/-- READ_ZONE (R21, R178). -/
def execReadZone (h : Hdr) (zone : Nat) (s : State) : Res :=
  s.onRequest (.readZone h zone) h true fun s => s.readOut h.link <|
    match toFin? 8 zone with
    | none => .inl .badIndex
    | some z => .inr (s.zone z).items

/-! ## READ_POINT -/

/-- The items of an assigned point (R72), its assigned flag before them (log 12). -/
def State.pointItems (s : State) (p : Point) : List Item :=
  let (pressure, sample) := s.currentPressure p.asg.seg
  [yesNo true, u16 p.asg.seg, u8 p.asg.line.val, u8 p.asg.addr, u8 (s.segOf p.asg.seg).zone.val] ++
    listOf (fun x => [u16 x.pressure, u32 x.round.toNat]) p.ring ++
    [yesNo p.fresh, u8 p.bad, u32 (s.line p.asg.line).round.toNat, u8 (s.line p.asg.line).state.code, u16 pressure,
      u8 (if sample then 0 else 1)]

/-- READ_POINT (R72): an unassigned point gives the assigned flag alone. -/
def execReadPoint (h : Hdr) (point : Nat) (s : State) : Res :=
  s.onRequest (.readPoint h point) h true fun s => s.readOut h.link <|
    if point ≥ Config.maxPoints then .inl .badIndex
    else match s.point? point with
      | none => .inr [yesNo false]
      | some p => .inr (s.pointItems p)

/-! ## READ_LINE -/

/-- A queued command (R44): MOVE 0 with target and speed, STOP 1. -/
def Cmd.items : Cmd → List Item
  | .move t v _ _ => [u8 0, u16 t, u8 v]
  | .stop => [u8 1, opt16 none, opt8 none]

/-- The nodes of a line from an address upward whose miss count is not 0 (R44). -/
def Line.missing (x : Line) (start : Nat) : List (Nat × Node) :=
  x.nodes.filter fun (a, n) => decide (start ≤ a) && decide (n.misses ≠ 0)

def Line.items (x : Line) (start : Nat) : List Item :=
  [u8 x.state.code, u32 x.round.toNat, u8 (x.nodes.filter (·.1 < 200)).length, u8 (x.nodes.filter (200 ≤ ·.1)).length] ++
    listOf (fun e => u16 e.valve :: e.cmd.items) x.queue ++
    (allFour.map fun j => opt16 ((x.slots.get j).map (·.valve))) ++ [u8 x.rotation.val] ++
    listOf (fun (a, n) => [u8 a, u8 n.misses]) ((x.missing start).take 48) ++ [yesNo (decide (48 < (x.missing start).length))]

/-- READ_LINE (R44). -/
def execReadLine (h : Hdr) (line addr : Nat) (s : State) : Res :=
  s.onRequest (.readLine h line addr) h true fun s => s.readOut h.link <|
    match toFin? 4 line with
    | none => .inl .badIndex
    | some l => .inr ((s.line l).items addr)

/-! ## READ_POLICY -/

def Rule.items (k : Fin 32) (r : Rule) : List Item :=
  [u8 k.val, u8 r.stage.code, u8 r.test.val, u8 r.cmp.code, u16 r.low, u16 r.high, yesNo r.exclude, u8 r.cls.code,
    yesNo r.concurrence, u8 r.mode.code, u8 r.value]

/-- The derived stage of a group (R114), MIXED 3. -/
def stageCode (rules : Vector Rule 32) (g : Group) : Nat := ((groupStage rules g.members).map Stage.code).getD 3

/-- A group as READ_POLICY gives it (R125), its member set in rising rule order (log 12). -/
def State.groupItems (s : State) (k : Fin 16) : List Item :=
  let g := s.groups.get k
  [u8 k.val, yesNo g.enabled] ++ listOf (fun m => [u8 m.val]) g.members ++ [u8 g.lead.val, u8 (stageCode s.rules g)]

/-- READ_POLICY (R125): up to 16 rules, or up to 6 groups, from a starting index. -/
def execReadPolicy (h : Hdr) (table start : Nat) (s : State) : Res :=
  s.onRequest (.readPolicy h table start) h true fun s => s.readOut h.link <|
    if table = 0 then
      if start ≥ 32 then .inl .badIndex
      else .inr (listOf (fun k => Rule.items k (s.rules.get k)) ((allRules.drop start).take 16))
    else if table = 1 then
      if start ≥ 16 then .inl .badIndex
      else .inr (listOf s.groupItems ((allSixteen.drop start).take 6))
    else .inl .outOfRange

/-! ## READ_INCIDENT -/

def State.watchItems (s : State) : Watch → List Item
  | .idle => [u8 0, opt32 none]
  | .running e => [u8 1, u32 (e - s.now)]
  | .ended => [u8 2, opt32 none]

/-- A failure: its reason and items (R93, R144, R146). -/
def failureItems : Option Failure → List Item
  | none => [opt8 none, opt8 none, opt8 none] ++ listOf (fun v => [u16 v]) []
  | some f => [u8 f.reason.code, opt8 f.zoneCount, opt8 f.stepCount] ++ listOf (fun v => [u16 v]) f.excl

/-- The step states in the order of R95's table. -/
def allStepStates : List StepState := [.waiting, .moving, .shadow, .closed, .skipped, .failed, .reopened, .retained]

def Incident.stepCounts (x : Incident) : List Item :=
  allStepStates.map fun k => u8 (x.steps.filter fun st => decide (st.state = k)).length

def State.incidentItems (s : State) (x : Incident) : List Item :=
  [u8 x.state.code, opt16 x.tag, opt8 (x.link.map linkCode), opt16 x.burst, u8 x.reqPrio, u8 x.effPrio,
    yesNo x.concRequired, opt8 (x.concGiven.map linkCode)] ++ listOf (fun v => [u16 v]) x.excl ++
    [opt8 x.current, opt8 x.staged, yesNo x.holdPending, opt8 (x.heldFrom.map HeldFrom.code), yesNo x.replanDue] ++
    s.watchItems x.watch ++ failureItems x.failure ++ [u16 x.flags.toNat] ++ x.stepCounts

/-- READ_INCIDENT (R157). -/
def execReadIncident (h : Hdr) (slot : Nat) (s : State) : Res :=
  s.onRequest (.readIncident h slot) h true fun s => s.readOut h.link <|
    match toFin? 16 slot with
    | none => .inl .badIndex
    | some i => .inr (s.incidentItems (s.inc i))

/-! ## READ_PLAN -/

/-- The planner's position for a slot (R96): QUEUED 0 with the entries ahead, COMPUTING 1, or none. -/
def State.plannerPosition (s : State) (i : Fin 16) : List Item :=
  match s.planner.queue.idxOf? i with
  | some n => [u8 0, u8 n]
  | none => if s.computing i then [u8 1, opt8 none] else [opt8 none, opt8 none]

/-- The items of R94 but the three lists, in its order; without a plan every item that may be absent is none (R96). The flags
OPEN_EDGE, STRANDS_PROTECTED and NO_FEEDS are sent as a yes/no byte each (log 12). -/
def planItems : Option Plan → List Item
  | none =>
    [u16 0, yesNo false, opt8 none, yesNo false, yesNo false, yesNo false] ++ listOf (fun v => [u16 v]) [] ++
      [u16 0, u16 0, opt8 none, yesNo false, opt8 none, opt8 none, opt8 none]
  | some p =>
    [u16 p.strandedCount, yesNo p.more, u8 p.protection.code, yesNo p.openEdge, yesNo p.strandsProtected,
      yesNo p.noFeeds] ++ listOf (fun v => [u16 v]) p.edgeValves ++
      [u16 p.edgeCount, u16 p.rescans, opt8 (p.group.map (·.val)), yesNo p.concurrence, u8 p.cls.code, u8 p.prio,
        u8 p.kind.code]

/-- The number of entries of each of the three lists (R193), 0 without a plan. -/
def listLengths : Option Plan → List Item
  | none => [u8 0, u8 0, u8 0]
  | some p => [u8 p.zone.length, u8 p.steps.length, u8 p.stranded.length]

/-- SUMMARY (R193), its items in the order the table lists them: the items of R94, the numbers of entries, the current and staged
waves, the planner's position and the failure items. -/
def State.planSummary (s : State) (i : Fin 16) : List Item :=
  let x := s.inc i
  planItems x.plan ++ listLengths x.plan ++ [opt8 x.current, opt8 x.staged] ++ s.plannerPosition i ++
    failureItems x.failure

def Step.items (n : Nat) (st : Step) : List Item :=
  [u16 st.valve, u8 n, u8 st.role.code, u8 st.state.code, u8 st.wave, u8 st.cls.code, u8 st.figures.slow,
    u32 st.figures.runEst, u32 st.figures.slowEst, yesNo st.figures.surgeRisk]

/-- A starting position lies beyond a list whose entries are numbered from `first` (R193): it numbers none of them, and is not
the first position, from which an empty list returns what it holds (log 12). -/
def beyondList (first length start : Nat) : Bool :=
  decide (start < first) || (decide (start ≠ first) && decide (first + length ≤ start))

/-- The valves a plan strands, as listed (R94). -/
def Incident.strandedList (x : Incident) : List Nat := (x.plan.map (·.stranded)).getD []

/-- One part of a plan (R193), or none where the part is unknown or the position lies beyond its list. -/
def State.planPart (s : State) (i : Fin 16) (part start : Nat) : Option (List Item) :=
  let x := s.inc i
  match part with
  | 0 => some (s.planSummary i)
  | 1 => if beyondList 0 x.zoneList.length start then none else some (listOf (fun n => [u16 n]) x.zoneList)
  | 2 =>
    if beyondList 1 x.steps.length start then none
    else some (listOf (fun e => Step.items (e.2 + 1) e.1) ((x.steps.zipIdx.drop (start - 1)).take 8))
  | 3 =>
    if beyondList 0 x.strandedList.length start then none
    else some (listOf (fun n => [u16 n]) ((x.strandedList.drop start).take 64))
  | _ => none

/-- READ_PLAN (R96, R193). -/
def execReadPlan (h : Hdr) (slot tag part start : Nat) (s : State) : Res :=
  s.onRequest (.readPlan h slot tag part start) h true fun s => s.readOut h.link <|
    match toFin? 16 slot with
    | none => .inl .badIndex
    | some i =>
      if !s.tenancy i tag then .inl .staleTag
      else match s.planPart i part start with
        | none => .inl .outOfRange
        | some items => .inr items

/-! ## READ_LOCKS -/

/-- READ_LOCKS (R62, R193): each entry says too whether its valve is defined. -/
def execReadLocks (h : Hdr) (start : Nat) (s : State) : Res :=
  s.onRequest (.readLocks h start) h true fun s => s.readOut h.link <|
    if start > 63 then .inl .outOfRange
    else .inr (listOf (fun e => e.items ++ [yesNo (s.valve? e.valve).isSome]) ((s.locks.drop start).take 32) ++
      [u8 s.locks.length])

/-! ## READ_ATTENTION and READ_LINK -/

/-- READ_ATTENTION (R202), for the requesting link. -/
def execReadAttention (h : Hdr) (s : State) : Res :=
  s.onRequest (.readAttention h) h true fun s => s.readOut h.link <|
    let p := s.port h.link
    .inr ([u8 p.device.toNat] ++ summaryItems p.summary ++
      [u16 p.incMask.toNat, u8 p.devMask.toNat, yesNo p.attn, yesNo p.noticePending])

def Port.items (p : Port) : List Item :=
  [u16 p.errors, yesNo p.slot.isSome, opt8 (p.slot.map (·.code)), u8 p.replies.length, yesNo p.noticePending,
    u16 p.incMask.toNat, u8 p.devMask.toNat, yesNo p.attn]

/-- READ_LINK (R192): the named link's error count is set to 0 once returned. -/
def execReadLink (h : Hdr) (named : Nat) (s : State) : Res :=
  s.onRequest (.readLink h named) h true fun s => s.unlessStarting h.link fun s =>
    match link? named with
    | none => s.refuse h.link .outOfRange
    | some l => (s.modPort l fun p => { p with errors := 0 }).reply h.link .done (s.port l).items

end Sys2Proof.Machine
end

