-- ==== Sys2Proof/Machine/Edits.lean ====
section
/-! DEFINITION. The seven model edits (R6 to R14, R64, R65). Each is a function of the carried record that either gives
the refusal of the first of tests 4 to 8 that fails, or the edited model; `State.edit` makes tests 1 to 3 before it and
counts the revision after it. -/

namespace Sys2Proof.Machine

open Sys2Proof

/-! ## The admission of an edit (R6) -/

/-- Tests 1 to 3 of R6. -/
def State.editTests (s : State) : List (Bool × Out) :=
  [(decide (s.device = .starting), .starting), (s.imageWriting || s.plannerBusy, .busy), (s.anyInUse, .incidentsActive)]

/-- An edit: refused by the first test that fails, or taken, counted in the revision and answered DONE (R6, R14); then
what follows of a taken edit. -/
def State.edit (s : State) (l : Link) (after : State → State) (own : State → Except Out State) : State :=
  match firstRefusal s.editTests with
  | some o => s.refuse l o
  | none =>
    match own s with
    | .error o => s.refuse l o
    | .ok t => after (({ t with revision := t.revision + 1 } : State).reply l .done [])

/-- The edited model, unless an ordered test fails. -/
def unlessRefused (tests : List (Bool × Out)) (t : State) : Except Out State :=
  match firstRefusal tests with
  | some o => .error o
  | none => .ok t

/-- A number within its range. -/
def within (lo hi n : Nat) : Bool := decide (lo ≤ n) && decide (n ≤ hi)

/-! ## SEG_PUT and SEG_DROP -/

/-- The carried fields of a segment, if every one lies within its values (R1, test 5). -/
def segFields (use zone length celerity rating diameter protection : Nat) : Option Seg :=
  match segUse? use, toFin? 8 zone, protection? protection with
  | some u, some z, some p =>
    if within 1 4000 length && within 300 1400 celerity && within 400 2500 rating && within 50 1200 diameter then
      some
        { use := u, zone := z, length := length, celerity := celerity, rating := rating, diameter := diameter,
          protection := p, valves := [] }
    else none
  | _, _, _ => none

/-- The segment is side A of a valve with a mover (R7 test 8). -/
def State.movesOn (s : State) (n : Nat) : Bool := s.valves.any fun (v, x) => decide (x.st.sideA = n) && s.hasMover v

/-- A point is the recorded tripping point of a GUARDED zone (R64). -/
def State.isTripping (s : State) (p : Nat) : Bool :=
  allEight.any fun z => decide ((s.zone z).guard = .guarded) && decide ((s.zone z).tripping = some p)

/-- The segment has the tripping point of a GUARDED guard (R7 test 8). -/
def State.tripsOn (s : State) (n : Nat) : Bool := s.points.any fun (k, p) => decide (p.asg.seg = n) && s.isTripping k

/-- SEG_PUT's tests and effect (R7). -/
def State.putSeg (n : Nat) (fields : Option Seg) (s : State) : Except Out State :=
  if n ≥ Config.maxSegs then .error .badIndex
  else match fields with
    | none => .error .outOfRange
    | some x =>
      match s.seg? n with
      | none => .ok { s with segs := tabPut s.segs n x }
      | some old =>
        unlessRefused [(decide (x.zone ≠ old.zone) && (s.movesOn n || s.tripsOn n), .inUse)]
          { s with segs := tabPut s.segs n { x with valves := old.valves } }

/-- SEG_PUT (R7). -/
def execSegPut (h : Hdr) (seg use zone length celerity rating diameter protection : Nat) (s : State) : Res :=
  s.onRequest (.segPut h seg use zone length celerity rating diameter protection) h (isControl h.link) fun s =>
    s.edit h.link id (State.putSeg seg (segFields use zone length celerity rating diameter protection))

/-- SEG_DROP's tests and effect (R8). -/
def State.dropSeg (n : Nat) (s : State) : Except Out State :=
  if n ≥ Config.maxSegs then .error .badIndex
  else match s.seg? n with
    | none => .error .badIndex
    | some x =>
      unlessRefused [(!x.valves.isEmpty || (s.pointOn n).isSome || s.feeds.contains n, .inUse)]
        { s with segs := tabDrop s.segs n }

/-- SEG_DROP (R8). -/
def execSegDrop (h : Hdr) (seg : Nat) (s : State) : Res :=
  s.onRequest (.segDrop h seg) h (isControl h.link) fun s => s.edit h.link id (State.dropSeg seg)

/-! ## VALVE_PUT and VALVE_DROP -/

/-- The carried fields of a valve, if every one lies within its values and the relations hold (R2, R9 test 5). A side's
segment is looked up by test 6. -/
def valveFields (sideA sideB line addr size turns maxSpeed minSpeed velocity normal mark : Nat) : Option ValveStatic :=
  match toFin? 4 line, normalPos? normal, serviceMark? mark with
  | some l, some n, some m =>
    if within 1 192 addr && within 50 1200 size && within 1 1500 turns && within 1 60 maxSpeed && within 1 60 minSpeed &&
        decide (minSpeed ≤ maxSpeed) && within 0 3000 velocity && (decide (sideB = 65535) || decide (sideB ≠ sideA)) then
      some
        { sideA := sideA, sideB := if sideB = 65535 then none else some sideB, line := l, addr := addr, size := size,
          turns := turns, maxSpeed := maxSpeed, minSpeed := minSpeed, velocity := velocity, normal := n, mark := m }
    else none
  | _, _, _ => none

/-- The segments that are sides of a valve. -/
def ValveStatic.sideList (st : ValveStatic) : List Nat := st.sideA :: st.sideB.toList

/-- The segment tables with a valve removed from every list of its sides (R10, R11). -/
def detach (segs : List (Nat × Seg)) (st : ValveStatic) (v : Nat) : List (Nat × Seg) :=
  st.sideList.foldl (fun t n => tabMod t n fun x => { x with valves := x.valves.filter (· ≠ v) }) segs

/-- The segment tables with a valve appended to the lists of its sides (R10). -/
def attach (segs : List (Nat × Seg)) (st : ValveStatic) (v : Nat) : List (Nat × Seg) :=
  st.sideList.foldl (fun t n => tabMod t n fun x => { x with valves := x.valves ++ [v] }) segs

/-- A segment's list would hold more than 12 valves with this one in it (R9 test 7). -/
def State.listFull (s : State) (v n : Nat) : Bool :=
  decide (Config.maxValveList < ((s.segOf n).valves.filter (· ≠ v)).length + 1)

/-- Another defined valve has the line and the node address (R9 test 8). -/
def State.addrTaken (s : State) (v : Nat) (st : ValveStatic) : Bool :=
  s.valves.any fun (w, x) => decide (w ≠ v) && decide (x.st.line = st.line) && decide (x.st.addr = st.addr)

/-- The put changes the valve's line or its node address. -/
def ValveStatic.moved (old new : ValveStatic) : Bool := decide (old.line ≠ new.line) || decide (old.addr ≠ new.addr)

/-- The volatile record after a put (R10, R61): afresh for an undefined slot or a moved node, otherwise kept; a release
is withdrawn when the normal position changes, and what a completed release said of the valve ends when the normal position in
turns does (log 41). -/
def volAfter (old : Option Valve) (new : ValveStatic) : ValveVol :=
  match old with
  | none => ValveVol.fresh
  | some x =>
    if x.st.moved new then ValveVol.fresh
    else
      let vol := { x.vol with released := x.vol.released && decide (normalTurns x.st = normalTurns new) }
      if x.st.normal ≠ new.normal then { vol with waiting := vol.waiting.filter (!·.isRelease) } else vol

/-- The poll rings follow a put (R26): the old address leaves, with the valve's queue entries where it leaves the line
(R28), and the new one joins. -/
def State.ringFollows (s : State) (v : Nat) (old : Option Valve) (new : ValveStatic) : State :=
  match old with
  | none => s.addNode new.line new.addr
  | some x =>
    if x.st.moved new then
      let s := s.dropNode x.st.line x.st.addr
      let s := if x.st.line = new.line then s else s.modLine x.st.line (·.dropValve v)
      s.addNode new.line new.addr
    else s

/-- The effect of a VALVE_PUT (R10). -/
def State.writeValve (s : State) (v : Nat) (st : ValveStatic) : State :=
  let old := s.valve? v
  let segs := match old with
    | none => s.segs
    | some x => detach s.segs x.st v
  let s : State :=
    { s with segs := attach segs st v, valves := tabPut s.valves v { st := st, vol := volAfter old st } }
  s.ringFollows v old st

/-- VALVE_PUT's tests and effect (R9, R10). -/
def State.putValve (v : Nat) (fields : Option ValveStatic) (s : State) : Except Out State :=
  if v ≥ Config.maxValves then .error .badIndex
  else match fields with
    | none => .error .outOfRange
    | some st =>
      let moved := match s.valve? v with
        | none => false
        | some x => x.st.moved st
      unlessRefused
        [(st.sideList.any fun n => (s.seg? n).isNone, .badIndex),
          (st.sideList.any (s.listFull v), .listFull),
          (s.addrTaken v st || s.hasMover v || (s.isLocked v && moved), .inUse)]
        (s.writeValve v st)

/-- VALVE_PUT (R9, R10). -/
def execValvePut (h : Hdr)
    (valve sideA sideB line addr size turns maxSpeed minSpeed velocity normal mark : Nat) (s : State) : Res :=
  s.onRequest (.valvePut h valve sideA sideB line addr size turns maxSpeed minSpeed velocity normal mark) h
    (isControl h.link) fun s =>
    s.edit h.link State.finish (State.putValve valve
      (valveFields sideA sideB line addr size turns maxSpeed minSpeed velocity normal mark))

/-- The effect of a VALVE_DROP (R11). -/
def State.eraseValve (s : State) (v : Nat) (st : ValveStatic) : State :=
  let s : State := { s with segs := detach s.segs st v, valves := tabDrop s.valves v }
  (s.dropNode st.line st.addr).modLine st.line (·.dropValve v)

/-- VALVE_DROP's tests and effect (R11). -/
def State.dropValve (v : Nat) (s : State) : Except Out State :=
  if v ≥ Config.maxValves then .error .badIndex
  else match s.valve? v with
    | none => .error .badIndex
    | some x => unlessRefused [(s.hasMover v || s.isLocked v, .inUse)] (s.eraseValve v x.st)

/-- VALVE_DROP (R11). -/
def execValveDrop (h : Hdr) (valve : Nat) (s : State) : Res :=
  s.onRequest (.valveDrop h valve) h (isControl h.link) fun s => s.edit h.link State.finish (State.dropValve valve)

/-! ## ZONE_PUT -/

/-- The carried zone record, if every field lies within its values (R4). -/
def zoneFields (nominal drained window allowance : Nat) : Option ZoneRec :=
  if within 100 1000 nominal && within 0 200 drained && within 60 3600 window && within 1 4 allowance then
    some { nominal := nominal, drained := drained, window := window, allowance := allowance }
  else none

/-- ZONE_PUT's tests and effect (R12). -/
def State.putZone (n : Nat) (fields : Option ZoneRec) (s : State) : Except Out State :=
  match toFin? 8 n, fields with
  | none, _ => .error .badIndex
  | some _, none => .error .outOfRange
  | some z, some r =>
    unlessRefused [(decide (r.allowance < s.slowCount z), .inUse)] (s.modZone z fun x => { x with record := r })

/-- ZONE_PUT (R12): a raised allowance is granted from at once. -/
def execZonePut (h : Hdr) (zone nominal drained window allowance : Nat) (s : State) : Res :=
  s.onRequest (.zonePut h zone nominal drained window allowance) h (isControl h.link) fun s =>
    s.edit h.link State.finish (State.putZone zone (zoneFields nominal drained window allowance))

/-! ## FEED_SET -/

/-- FEED_SET's tests and effect (R13). -/
def State.putFeeds (l : List Nat) (s : State) : Except Out State :=
  unlessRefused
    [(decide (Config.maxFeeds < l.length) || decide (dedup l ≠ l), .outOfRange),
      (l.any fun n => decide (n ≥ Config.maxSegs) || (s.seg? n).isNone, .badIndex)]
    { s with feeds := l }

/-- FEED_SET (R13). -/
def execFeedSet (h : Hdr) (segs : List Nat) (s : State) : Res :=
  s.onRequest (.feedSet h segs) h (isControl h.link) fun s => s.edit h.link id (State.putFeeds segs)

/-! ## POINT_PUT -/

/-- Another assigned point names the segment, or has the line and sensor address (R64 test 8). -/
def State.pointTaken (s : State) (k : Nat) (a : PointAssign) : Bool :=
  s.points.any fun (j, p) =>
    decide (j ≠ k) && (decide (p.asg.seg = a.seg) || (decide (p.asg.line = a.line) && decide (p.asg.addr = a.addr)))

/-- The effect of an assignment (R65). -/
def State.assign (s : State) (k : Nat) (a : PointAssign) : State :=
  match s.point? k with
  | none => ({ s with points := tabPut s.points k (Point.start a) } : State).addNode a.line a.addr
  | some p =>
    if p.asg = a then s
    else
      let t : State := { s with points := tabPut s.points k (Point.start a) }
      if p.asg.line = a.line ∧ p.asg.addr = a.addr then t
      else (t.dropNode p.asg.line p.asg.addr).addNode a.line a.addr

/-- The effect of making a point unassigned (R65). -/
def State.unassign (s : State) (k : Nat) : State :=
  match s.point? k with
  | none => s
  | some p => ({ s with points := tabDrop s.points k } : State).dropNode p.asg.line p.asg.addr

/-- POINT_PUT's tests and effect (R64, R65). The last three fields are ignored when the assigned flag is clear. -/
def State.putPoint (k assigned seg line addr : Nat) (s : State) : Except Out State :=
  if k ≥ Config.maxPoints then .error .badIndex
  else match yesNo? assigned with
    | none => .error .outOfRange
    | some false => unlessRefused [((s.point? k).isSome && s.isTripping k, .inUse)] (s.unassign k)
    | some true =>
      match toFin? 4 line with
      | none => .error .outOfRange
      | some l =>
        let a : PointAssign := { seg := seg, line := l, addr := addr }
        let changes := match s.point? k with
          | none => true
          | some p => decide (p.asg ≠ a)
        unlessRefused
          [(!within 200 231 addr, .outOfRange), ((s.seg? seg).isNone, .badIndex),
            (s.pointTaken k a || (s.isTripping k && changes), .inUse)]
          (s.assign k a)

/-- POINT_PUT (R64, R65). -/
def execPointPut (h : Hdr) (point assigned seg line addr : Nat) (s : State) : Res :=
  s.onRequest (.pointPut h point assigned seg line addr) h (isControl h.link) fun s =>
    s.edit h.link State.finish (State.putPoint point assigned seg line addr)

end Sys2Proof.Machine
end

