-- ==== Sys2Proof/Machine/PolicyEdits.lean ====
section
/-! DEFINITION. The two policy edits (R120 to R124). They leave the model revision unchanged (R14). -/

namespace Sys2Proof.Machine

open Sys2Proof

/-- Tests 1 and 2 of R120 and R123. -/
def State.policyTests (s : State) : List (Bool × Out) :=
  [(decide (s.device = .starting), .starting), (s.imageWriting || s.plannerBusy, .busy)]

/-- A policy edit: refused by the first test that fails, or taken and answered DONE. -/
def State.policyEdit (s : State) (l : Link) (own : State → Except Out State) : State :=
  match firstRefusal s.policyTests with
  | some o => s.refuse l o
  | none =>
    match own s with
    | .error o => s.refuse l o
    | .ok t => t.reply l .done []

/-! ## RULE_PUT -/

/-- A rule of a stage may name a test (R110): VALVE rules the tests 0 to 7, PLAN rules the tests 8 to 14. -/
def Stage.mayName : Stage → Fin 15 → Bool
  | .off, _ => true
  | .valve, t => decide (t.val < 8)
  | .plan, t => decide (8 ≤ t.val)

/-- A comparison over a range asks low not above high (R110). -/
def Compare.rangeOk (c : Compare) (low high : Nat) : Bool :=
  match c with
  | .equal => true
  | .notEqual => true
  | .inRange => decide (low ≤ high)
  | .outOfRange => decide (low ≤ high)

/-- The carried action fields of a rule with its stage, test and comparison, if every field lies within its values
(R110, R120 test 4). -/
def ruleFields (stage test cmp low high exclude cls conc mode value : Nat) : Option Rule :=
  match stage? stage, toFin? 15 test, compare? cmp, yesNo? exclude with
  | some st, some t, some c, some e =>
    (match class? cls, yesNo? conc, prioMode? mode with
      | some k, some q, some m =>
        if st.mayName t && c.rangeOk low high && decide (value ≤ 3) then
          some
            { stage := st, test := t, cmp := c, low := low, high := high, exclude := e, cls := k, concurrence := q,
              mode := m, value := value }
        else none
      | _, _, _ => none)
  | _, _, _, _ => none

/-- The new stage would make an enabled group mixed (R121). -/
def State.wouldMix (s : State) (k : Fin 32) (stage : Stage) : Bool :=
  allSixteen.any fun g =>
    let x := s.groups.get g
    x.enabled && x.members.contains k &&
      x.members.any fun m => decide (m ≠ k) && decide ((s.rules.get m).stage ≠ stage)

/-- RULE_PUT's own tests and effect (R120 to R122). -/
def State.putRule (n : Nat) (fields : Option Rule) (s : State) : Except Out State :=
  match toFin? 32 n, fields with
  | none, _ => .error .badIndex
  | some _, none => .error .outOfRange
  | some k, some r => unlessRefused [(s.wouldMix k r.stage, .mixedStage)] { s with rules := s.rules.set k r }

/-- RULE_PUT (R120 to R122). -/
def execRulePut (h : Hdr) (rule stage test cmp low high exclude cls conc mode value : Nat) (s : State) : Res :=
  s.onRequest (.rulePut h rule stage test cmp low high exclude cls conc mode value) h (isControl h.link) fun s =>
    s.policyEdit h.link (State.putRule rule (ruleFields stage test cmp low high exclude cls conc mode value))

/-! ## GROUP_PUT -/

/-- The member set a list of rule numbers gives; none where a number is no rule. -/
def memberSet : List Nat → Option (List (Fin 32))
  | [] => some []
  | n :: rest =>
    match toFin? 32 n, memberSet rest with
    | some k, some l => some (setInsert l k)
    | _, _ => none

/-- The carried group, if its flag, members and lead lie within their values and the set is not empty (R123 test 4). -/
def groupFields (enabled : Nat) (members : List Nat) (lead : Nat) : Option Group :=
  match yesNo? enabled, memberSet members, toFin? 32 lead with
  | some e, some (m :: rest), some k => some { enabled := e, members := m :: rest, lead := k }
  | _, _, _ => none

/-- GROUP_PUT's own tests and effect (R123, R124). -/
def State.putGroup (n : Nat) (fields : Option Group) (s : State) : Except Out State :=
  match toFin? 16 n, fields with
  | none, _ => .error .badIndex
  | some _, none => .error .outOfRange
  | some k, some g =>
    unlessRefused
      [(!g.members.contains g.lead, .badIndex),
        (g.enabled && (groupStage s.rules g.members).isNone, .mixedStage)]
      { s with groups := s.groups.set k g }

/-- GROUP_PUT (R123, R124). -/
def execGroupPut (h : Hdr) (group enabled : Nat) (members : List Nat) (lead : Nat) (s : State) : Res :=
  s.onRequest (.groupPut h group enabled members lead) h (isControl h.link) fun s =>
    s.policyEdit h.link (State.putGroup group (groupFields enabled members lead))

end Sys2Proof.Machine
end

