-- ==== Sys2Proof/Machine/Service.lean ====
section
/-! DEFINITION. The service requests: the grant mode (R162), the line states (R41, R43), service marks (R15), the lock list
(R54 to R57), releases (R60), and the notice mask and acknowledgement of a link (R199, R200). -/

namespace Sys2Proof.Machine

open Sys2Proof

/-! ## GRANT_MODE -/

/-- The carried mode, or the refusal it meets (R162). -/
def State.modeOf (s : State) (mode slot tag : Nat) : Except Out GrantMode :=
  match mode with
  | 0 => .ok .fixed
  | 1 => .ok .rotating
  | 2 =>
    match toFin? 16 slot with
    | none => .error .badIndex
    | some i => if s.tenancy i tag then .ok (.preferred i tag) else .error .staleTag
  | _ => .error .outOfRange

/-- GRANT_MODE (R162): every arbiter decides at once where it may. -/
def execGrantMode (h : Hdr) (mode slot tag : Nat) (s : State) : Res :=
  s.onRequest (.grantMode h mode slot tag) h (isControl h.link) fun s => s.unlessStarting h.link fun s =>
    match s.modeOf mode slot tag with
    | .error o => s.refuse h.link o
    | .ok m => (({ s with grantMode := m } : State).reply h.link .done []).finish

/-! ## Lines -/

/-- A line changes its state and raises LINE_CHANGE (R41 to R43). -/
def State.setLine (s : State) (l : Fin 4) (x : LineState) : State :=
  (s.modLine l fun y => { y with state := x }).raiseDev .lineChange

/-- The chains of a line's valves are broken (R32, R43). -/
def State.breakChains (s : State) (l : Fin 4) : State :=
  { s with
    valves := s.valves.map fun (v, x) => (v, if x.st.line = l then { x with vol := x.vol.breakChain } else x) }

/-- LINE_STOP's effect on a line (R41): offered closing steps fail and a line without a held slot becomes STOPPED as the
machine settles. -/
def State.stopLine (s : State) (l : Fin 4) : State :=
  match (s.line l).state with
  | .running => s.setLine l .stopping
  | .stopping => s
  | .stopped => s

/-- LINE_START's effect on a line (R43). -/
def State.startLine (s : State) (l : Fin 4) : State :=
  match (s.line l).state with
  | .running => s
  | .stopping => s.setLine l .running
  | .stopped =>
    (((s.setLine l .running).breakChains l).modLine l fun x => { x with furtherDue := false }).beginRoundIfAny l

/-- LINE_STOP (R41). -/
def execLineStop (h : Hdr) (line : Nat) (s : State) : Res :=
  s.onRequest (.lineStop h line) h (isControl h.link) fun s => s.unlessStarting h.link fun s =>
    match toFin? 4 line with
    | none => s.refuse h.link .badIndex
    | some l => ((s.stopLine l).reply h.link .done []).finish

/-- LINE_START (R43). -/
def execLineStart (h : Hdr) (line : Nat) (s : State) : Res :=
  s.onRequest (.lineStart h line) h (isControl h.link) fun s => s.unlessStarting h.link fun s =>
    match toFin? 4 line with
    | none => s.refuse h.link .badIndex
    | some l => ((s.startLine l).reply h.link .done []).finish

/-! ## MARK -/

/-- A valve takes a service mark; IN_SERVICE takes it out of STUCK (R15). -/
def Valve.marked (x : Valve) (m : ServiceMark) : Valve :=
  { st := { x.st with mark := m }
    vol := if m = .inService ∧ x.vol.motion = .stuck then { x.vol with motion := .atRest } else x.vol }

/-- A MARK INOPERABLE reaches the incidents whose step for the valve is WAITING, MOVING or SHADOW (R143). -/
def State.markTrigger (s : State) (v : Nat) : State :=
  allSixteen.foldl (fun s i =>
    if ((s.inc i).stepFor v).any (·.state.busy) then s.trigger i v .mark else s) s

/-- MARK's effect (R15): every mark is written, then INOPERABLE reaches the incidents valve by valve as listed and, for each,
slot by slot; the spec orders neither, and the order is the model's choice (log 30). -/
def State.markAll (s : State) (valves : List Nat) (m : ServiceMark) : State :=
  let s := valves.foldl (fun s v => s.modValve v (·.marked m)) s
  match m with
  | .inService => s
  | .inoperable => valves.foldl State.markTrigger s

/-- MARK (R15): taken from any link. R15 orders its refusals nowhere: a count or a mark out of range before an undefined valve is the
model's choice (log 38), and so is a count of the list as carried, repeats included (log 43). -/
def execMark (h : Hdr) (valves : List Nat) (value : Nat) (s : State) : Res :=
  s.onRequest (.mark h valves value) h true fun s => s.unlessStarting h.link fun s =>
    if !within 1 16 valves.length then s.refuse h.link .outOfRange
    else match serviceMark? value with
      | none => s.refuse h.link .outOfRange
      | some m =>
        if valves.any fun v => (s.valve? v).isNone then s.refuse h.link .badIndex
        else ((s.markAll (dedup valves) m).reply h.link .done []).finish

/-! ## The lock list -/

/-- A lock-area write falls due (R18, R56): it begins at once, capturing the list, or waits its turn. -/
def State.dueLockWrite (s : State) (l : Link) : State :=
  match s.store.active with
  | none => { s with store := { s.store with active := some (.locks l s.locks) } }
  | some _ => { s with store := { s.store with due := s.store.due ++ [.locks l] } }

/-- The lock list has changed (R55 to R57): LOCK_CHANGE is raised, the write falls due, and the orphan count follows. -/
def State.lockChanged (s : State) (l : Link) : State :=
  (((s.raiseDev .lockChange).dueLockWrite l).refreshOrphans).kickPorts

/-- The tests of LOCK for a defined valve (R55 tests 2 to 5). -/
def State.lockTests (s : State) (v : Nat) (x : Valve) : List (Bool × Out) :=
  [(s.isLocked v, .locked),
    (decide (x.vol.motion ≠ .atRest) || s.hasMover v || !x.vol.waiting.isEmpty, .moving),
    (decide (x.vol.status ≠ .fresh), .stale),
    (decide (Config.maxLocks ≤ s.locks.length), .tableFull)]

/-- LOCK's effect (R55): the entry at the accepted position, and the valve's queued MOVEs barred. The reply waits. -/
def State.addLock (s : State) (l : Link) (v : Nat) (x : Valve) : State :=
  let e : LockEntry := { valve := v, link := l, position := x.vol.accepted.getD 0 }
  (({ s with locks := s.locks ++ [e] } : State).barQueued v Cmd.isMove).lockChanged l

/-- LOCK (R55): taken from any link. -/
def execLock (h : Hdr) (valve : Nat) (s : State) : Res :=
  s.onRequest (.lock h valve) h true fun s => s.unlessStarting h.link fun s =>
    match s.valve? valve with
    | none => s.refuse h.link .badIndex
    | some x => s.tested h.link (firstRefusal (s.lockTests valve x)) fun s => s.addLock h.link valve x

/-- UNLOCK's effect (R57). The reply waits. -/
def State.removeLock (s : State) (l : Link) (v : Nat) : State :=
  ({ s with locks := s.locks.filter (·.valve ≠ v) } : State).lockChanged l

/-- UNLOCK (R57): with FORCE from link S it is not permitted. -/
def execUnlock (h : Hdr) (valve force : Nat) (s : State) : Res :=
  s.onRequest (.unlock h valve force) h (isControl h.link || decide (force ≠ 1)) fun s =>
    s.unlessStarting h.link fun s =>
    match yesNo? force with
    | none => s.refuse h.link .outOfRange
    | some f =>
      if valve ≥ Config.maxValves then s.refuse h.link .badIndex
      else match s.lockOf valve with
        | none => s.refuse h.link .wrongState
        | some e => if e.link ≠ h.link ∧ f = false then s.refuse h.link .notOwner else s.removeLock h.link valve

/-! ## RELEASE -/

/-- RELEASE's effect (R60): the release takes the next arrival number and waits for a slot, which is granted as the
machine settles. -/
def State.addRelease (s : State) (v : Nat) : State :=
  let n := s.releaseCount + 1
  ({ s with releaseCount := n } : State).addWaiting v (.release n)

/-- RELEASE (R60): taken from any link. -/
def execRelease (h : Hdr) (valve : Nat) (s : State) : Res :=
  s.onRequest (.release h valve) h true fun s => s.unlessStarting h.link fun s =>
    match s.valve? valve with
    | none => s.refuse h.link .badIndex
    | some x =>
      if s.dispositionOf valve x ≠ .orphan ∨ x.vol.motion ≠ .atRest then s.refuse h.link .wrongState
      else ((s.addRelease valve).reply h.link .accepted []).finish

/-! ## NOTICE_MASK and ACK -/

/-- The selected bits of a mask enabled or disabled (R199). -/
def setBits {n : Nat} (mask selected : BitVec n) (enable : Bool) : BitVec n :=
  if enable then mask ||| selected else mask &&& ~~~selected

/-- NOTICE_MASK's effect on its link (R199). -/
def Port.mask (p : Port) (inc dev : Nat) (enable : Bool) : Port :=
  { p with
    incMask := setBits p.incMask (BitVec.ofNat 16 inc) enable
    devMask := setBits p.devMask (BitVec.ofNat 8 dev) enable }

/-- NOTICE_MASK (R199). -/
def execNoticeMask (h : Hdr) (inc dev value : Nat) (s : State) : Res :=
  s.onRequest (.noticeMask h inc dev value) h true fun s => s.unlessStarting h.link fun s =>
    match yesNo? value with
    | none => s.refuse h.link .outOfRange
    | some e =>
      if incWordOk inc && devWordOk dev then (s.modPort h.link fun p => p.mask inc dev e).reply h.link .done []
      else s.refuse h.link .outOfRange

/-- The selected device flags are removed from a link (R200). -/
def Port.ackDevice (p : Port) (flags : Nat) : Port := { p with device := p.device &&& ~~~(BitVec.ofNat 8 flags) }

/-- The selected kinds are removed from a link's copy for a slot (R200). -/
def Port.ackCopy (p : Port) (i : Fin 16) (flags : Nat) : Port :=
  let c := p.copies.get i
  { p with copies := p.copies.set i { c with pending := c.pending &&& ~~~(BitVec.ofNat 16 flags) } }

/-- ACK (R200); the target 255 is DEVICE. -/
def execAck (h : Hdr) (target tag flags : Nat) (s : State) : Res :=
  s.onRequest (.ack h target tag flags) h true fun s => s.unlessStarting h.link fun s =>
    if target = 255 then
      if devWordOk flags then (s.modPort h.link (·.ackDevice flags)).reply h.link .done []
      else s.refuse h.link .outOfRange
    else match toFin? 16 target with
      | none => s.refuse h.link .badIndex
      | some i =>
        if !incWordOk flags then s.refuse h.link .outOfRange
        else if ((s.port h.link).copies.get i).tag ≠ some tag then s.refuse h.link .staleTag
        else (s.modPort h.link (·.ackCopy i flags)).reply h.link .done []

end Sys2Proof.Machine
end

