-- ==== Sys2Proof/Machine/IncidentRequests.lean ====
section
/-! DEFINITION. The requests that name an incident, and OPEN (chapter 8). -/

namespace Sys2Proof.Machine

open Sys2Proof

/-! ## OPEN -/

/-- The segment is the burst of an incident in use or lies in the zone of its plan (R129 test 4). So an OPEN repeated before the first
incident has a plan is refused, although a remark of R189 says that it opens a second incident; R129 is the owning rule and is
followed (log 51). -/
def State.inZone (s : State) (n : Nat) : Bool :=
  allSixteen.any fun i => (s.inc i).inUse && (decide ((s.inc i).burst = some n) || (s.inc i).zoneList.contains n)

/-- The lowest-numbered FREE slot (R129). -/
def State.freeIncident (s : State) : Option (Fin 16) := allSixteen.find? fun i => !(s.inc i).inUse

/-- The tag counter's next value (R127). -/
def nextTag (n : Nat) : Nat := if n ≥ 65534 then 0 else n + 1

/-- Every link's copy for a slot is emptied and takes the new tag (R201). -/
def State.resetCopies (s : State) (i : Fin 16) (t : Nat) : State :=
  s.modPorts fun p => { p with copies := p.copies.set i (Copy.mk (some t) 0) }

/-- A slot is opened (R127, R129, R201): its record is new, its state PLANNING, and it asks for a plan. -/
def State.openSlot (s : State) (i : Fin 16) (l : Link) (seg prio : Nat) : State :=
  let t := nextTag s.tagCounter
  let s : State := { s with tagCounter := t }
  let s := s.modInc i fun _ =>
    { Incident.empty with
      state := .planning
      tag := some t
      link := some l
      burst := some seg
      reqPrio := min 3 prio
      effPrio := min 3 prio }
  (s.resetCopies i t).planningRequest i

/-- OPEN (R129): taken from any link; the reply carries the slot and the serial tag. -/
def execOpen (h : Hdr) (seg prio : Nat) (s : State) : Res :=
  s.onRequest (.openInc h seg prio) h true fun s => s.unlessStarting h.link fun s =>
    match s.seg? seg with
    | none => s.refuse h.link .badIndex
    | some x =>
      if x.use = .disused then s.refuse h.link .disused
      else if s.inZone seg then s.refuse h.link .inZone
      else match s.freeIncident with
        | none => s.refuse h.link .tableFull
        | some i => (s.openSlot i h.link seg prio).reply h.link .accepted [u8 i.val, u16 (nextTag s.tagCounter)]

/-! ## Requests that name an incident -/

/-- The tests of R127 before a request's own. -/
def State.named (s : State) (l : Link) (slot tag : Nat) (own : Fin 16 → State → State) : State :=
  s.unlessStarting l fun s =>
    match toFin? 16 slot with
    | none => s.refuse l .badIndex
    | some i => if s.tenancy i tag then own i s else s.refuse l .staleTag

/-- CONCUR's own tests and effect (R133). -/
def State.concur (l : Link) (i : Fin 16) (s : State) : State :=
  let x := s.inc i
  if x.state ≠ .awaitingConcurrence then s.refuse l .wrongState
  else if x.link = some l then s.refuse l .sameLink
  else
    (((s.modInc i fun x => { x with concGiven := some l }).enterClosing i x.firstPlan).reply l .done []).finish

/-- CONCUR (R133). -/
def execConcur (h : Hdr) (slot tag : Nat) (s : State) : Res :=
  s.onRequest (.concur h slot tag) h true fun s => s.named h.link slot tag (State.concur h.link)

/-- WITHDRAW's own tests and effect (R134). -/
def State.withdraw (l : Link) (i : Fin 16) (s : State) : State :=
  let x := s.inc i
  if x.state ≠ .awaitingConcurrence then s.refuse l .wrongState
  else if l = .S ∧ x.link ≠ some .S then s.refuse l .notOwner
  else (((s.stopMovers i .withdraw).endTenancy i .ended).reply l .done []).finish

/-- WITHDRAW (R134). -/
def execWithdraw (h : Hdr) (slot tag : Nat) (s : State) : Res :=
  s.onRequest (.withdraw h slot tag) h true fun s => s.named h.link slot tag (State.withdraw h.link)

/-- HOLD's effect by the incident's state; none where it is not taken (R149). -/
def State.holdEffect (s : State) (i : Fin 16) : Option State :=
  match (s.inc i).state with
  | .closing =>
    some ((s.modInc i fun x => { x with state := .held, heldFrom := some .closing }).stopMovers i .hold)
  | .restoring =>
    some ((s.modInc i fun x => { x with state := .held, heldFrom := some .restoring }).stopMovers i .hold)
  | .replanning =>
    if (s.inc i).holdPending then some s
    else some ((s.modInc i fun x => { x with holdPending := true }).stopMovers i .hold)
  | .held => some s
  | .free => none
  | .planning => none
  | .awaitingConcurrence => none
  | .isolated => none
  | .confirmed => none
  | .leakThrough => none
  | .planFailed => none

/-- A request whose effect depends on the state: WRONG_STATE where it has none, else answered and settled. -/
def State.byState (s : State) (l : Link) (o : Out) (effect : Option State) : State :=
  match effect with
  | none => s.refuse l .wrongState
  | some t => (t.reply l o []).finish

/-- HOLD (R149). -/
def execHold (h : Hdr) (slot tag : Nat) (s : State) : Res :=
  s.onRequest (.hold h slot tag) h true fun s => s.named h.link slot tag fun i s =>
    s.byState h.link .done (s.holdEffect i)

/-- The end of a hold from CLOSING (R150). -/
def State.resumeClosing (s : State) (i : Fin 16) : State :=
  let due := (s.inc i).replanDue
  let s := s.modInc i fun x => { x with heldFrom := none, replanDue := false }
  if due then (s.modInc i fun x => { x with staged := none, state := .replanning }).planningRequest i
  else if (s.inc i).concOutstanding then s.awaitConcurrence i
  else s.enterClosing i false

/-- RESUME's effect by the incident's state; none where it is not taken (R150). -/
def State.resumeEffect (s : State) (i : Fin 16) : Option State :=
  let x := s.inc i
  match x.state, x.heldFrom with
  | .held, some .restoring => some (s.modInc i fun x => { x with heldFrom := none, state := .restoring })
  | .held, some .closing => some (s.resumeClosing i)
  | .replanning, _ => if x.holdPending then some (s.modInc i fun x => { x with holdPending := false }) else none
  | _, _ => none

/-- RESUME (R150). -/
def execResume (h : Hdr) (slot tag : Nat) (s : State) : Res :=
  s.onRequest (.resume h slot tag) h true fun s => s.named h.link slot tag fun i s =>
    s.byState h.link .done (s.resumeEffect i)

/-- The incident is isolated (R145, R151): ISOLATED, CONFIRMED or LEAK_THROUGH. -/
def IncState.isIsolated : IncState → Bool
  | .isolated => true
  | .confirmed => true
  | .leakThrough => true
  | .free => false
  | .planning => false
  | .awaitingConcurrence => false
  | .closing => false
  | .replanning => false
  | .held => false
  | .planFailed => false
  | .restoring => false

/-- EXTEND's own tests (R145). The count tested is that of the list as carried, repeats included (log 43). -/
def Incident.extendTests (x : Incident) (valves : List Nat) : List (Bool × Out) :=
  [(!x.state.isIsolated, .wrongState), (!within 1 8 valves.length, .outOfRange),
    (valves.any fun v => (x.stepFor v).isNone, .badIndex),
    (decide (Config.maxExcl < (valves.foldl addExcl x.excl).length), .listFull)]

/-- EXTEND (R145). -/
def execExtend (h : Hdr) (slot tag : Nat) (valves : List Nat) (s : State) : Res :=
  s.onRequest (.extend h slot tag valves) h true fun s => s.named h.link slot tag fun i s =>
    s.tested h.link (firstRefusal ((s.inc i).extendTests valves)) fun s =>
      (((s.modInc i fun x => { x with excl := valves.foldl addExcl x.excl }).enterReplanning i).reply h.link .accepted
        []).finish

/-- CONFIRM is taken (R142). -/
def Incident.mayConfirm (x : Incident) : Bool :=
  decide (x.state = .leakThrough) || (decide (x.state = .isolated) && decide (x.watch = .ended))

/-- CONFIRM (R142). It concerns no valve, so nothing else falls due. -/
def execConfirm (h : Hdr) (slot tag : Nat) (s : State) : Res :=
  s.onRequest (.confirm h slot tag) h true fun s => s.named h.link slot tag fun i s =>
    if (s.inc i).mayConfirm then ((s.enterConfirmed i).reply h.link .done []).kickPorts
    else s.refuse h.link .wrongState

/-- RESTORE is taken (R151). -/
def Incident.mayRestore (x : Incident) : Bool :=
  x.state.isIsolated || decide (x.state = .planFailed) ||
    (decide (x.state = .held) && decide (x.heldFrom = some .closing))

/-- RESTORE (R151). -/
def execRestore (h : Hdr) (slot tag : Nat) (s : State) : Res :=
  s.onRequest (.restore h slot tag) h true fun s => s.named h.link slot tag fun i s =>
    s.byState h.link .accepted (if (s.inc i).mayRestore then some (s.beginRestore i) else none)

/-- ABANDON (R155): taken in every state but FREE; no valve is opened. -/
def execAbandon (h : Hdr) (slot tag : Nat) (s : State) : Res :=
  s.onRequest (.abandon h slot tag) h true fun s => s.named h.link slot tag fun i s =>
    s.byState h.link .done (some ((s.stopMovers i .abandon).endTenancy i .ended))

end Sys2Proof.Machine
end

