-- ==== Sys2Proof/Machine/StoreEvents.lean ====
section
/-! DEFINITION. The store: MODEL_STORE and the ends of its writes (R16 to R18, R56). -/

namespace Sys2Proof.Machine

open Sys2Proof

/-- What an image write captures (R16, R17). -/
def State.image (s : State) : Image where
  segs := s.segs
  valves := s.valves.map fun (v, x) => (v, x.st)
  zones := s.zones.map (·.record)
  feeds := s.feeds
  points := s.points.map fun (k, p) => (k, p.asg)
  rules := s.rules
  groups := s.groups
  revision := s.revision

/-- An image write falls due (R17, R18): its content is captured now; it begins at once or waits its turn. -/
def State.dueImageWrite (s : State) (l : Link) : State :=
  match s.store.active with
  | none => { s with store := { s.store with active := some (.image l s.image) } }
  | some _ => { s with store := { s.store with due := s.store.due ++ [.image l s.image] } }

/-- MODEL_STORE (R17): the slot stays held until the write has ended. -/
def execModelStore (h : Hdr) (s : State) : Res :=
  s.onRequest (.modelStore h) h (isControl h.link) fun s => s.unlessStarting h.link fun s =>
    if s.imageWriting then s.refuse h.link .busy else s.dueImageWrite h.link

/-- The next write that waits begins (R18); a lock-area write captures the list now (R56). -/
def State.nextWrite (s : State) : State :=
  match s.store.due with
  | [] => { s with store := { s.store with active := none } }
  | .image l x :: rest => { s with store := { s.store with active := some (.image l x), due := rest } }
  | .locks l :: rest => { s with store := { s.store with active := some (.locks l s.locks), due := rest } }

/-- An area as read back checks good (R16). -/
def checksGood (content : List Byte) (crc : BitVec 32) : Bool := decide (crc32 content = crc)

/-- A write has been read back and checked: the request is answered, and a bad check raises STORE_FAULT (R17, R56). -/
def State.writeEnded (s : State) (l : Link) (good : Bool) : State :=
  let s := if good then s.reply l .done [] else (s.reply l .storeFault []).raiseDev .storeFault
  s.nextWrite.kickPorts

/-- IMAGE_WRITE_END (R17): a failed write leaves an area that checks bad. With no image write in progress none ends. -/
def execImageWriteEnd (content : List Byte) (crc : BitVec 32) (s : State) : Res :=
  .next <|
    match s.store.active with
    | some (.image l x) =>
      let good := checksGood content crc
      ({ s with store := { s.store with image := if good then .good x else .bad } } : State).writeEnded l good
    | _ => s

/-- LOCK_AREA_WRITE_END (R56): after a failed write it is open what the next start-up finds (log 1). -/
def execLockAreaWriteEnd (content : List Byte) (crc : BitVec 32) (s : State) : Res :=
  .next <|
    match s.store.active with
    | some (.locks l x) =>
      let good := checksGood content crc
      ({ s with store := { s.store with locks := if good then .good x else .doubtful x } } : State).writeEnded l good
    | _ => s

end Sys2Proof.Machine
end

