-- ==== Sys2Proof/Machine/LineEvents.lean ====
section
/-! DEFINITION. What a valve line brings: the valid replies to its transactions and the miss (chapter 2). A reply that does
not answer the transaction in flight, or is not valid by R24, is discarded; the window then runs out as a MISS. -/

namespace Sys2Proof.Machine

open Sys2Proof

/-! ## The end of a transaction -/

/-- The transaction in flight ends; after a poll visit a further transaction is due (R29), also after a visit whose node the model
removed in flight, which the spec leaves open (log 35). -/
def State.endTxn (s : State) (l : Fin 4) (t : Txn) : State :=
  s.modLine l fun x => { x with txn := none, furtherDue := t.visit }

/-- Every line has completed its two start-up rounds (R20). -/
def State.startupDone (s : State) : Bool := allFour.all fun l => decide (2 ≤ (s.line l).startRounds)

/-- A poll round of a line is complete (R20, R27): in STARTING it counts, and the last of them makes the device RUNNING;
the next round begins at once. -/
def State.endRound (s : State) (l : Fin 4) : State :=
  let s := match s.device with
    | .running => s
    | .starting =>
      let s := s.modLine l fun x => { x with startRounds := min 2 (x.startRounds + 1) }
      if s.startupDone then { s with device := .running } else s
  s.beginRound l

/-- A poll visit has ended: the cursor moves on, or the round ends (R27). A node that the model removed meanwhile moved
the cursor when it left (R26). -/
def State.endVisit (s : State) (l : Fin 4) (t : Txn) : State :=
  if t.visit && !t.gone then
    match tabAfter (s.line l).nodes t.addr with
    | some a => s.modLine l fun x => { x with cursor := some a }
    | none => s.endRound l
  else s

/-- A reply reaches a line: it is taken when it answers the transaction in flight and is valid (R24); the effect follows,
then the end of a poll visit, then all that is due. So a reply that frees the last slot of a STOPPING line and is the visit to the
highest address ends the round before the line becomes STOPPED (R42), which is the model's choice (log 34). -/
def State.onReply (s : State) (l : Fin 4) (addr : Nat) (k : TxnKind) (valid : Bool) (effect : State → State) : Res :=
  .next <|
    match (s.line l).txn with
    | none => s
    | some t =>
      if t.addr = addr ∧ t.kind = k ∧ t.gone = false ∧ valid = true then
        ((effect ((s.endTxn l t).validReply l addr)).endVisit l t).finish
      else s

/-! ## Reports -/

/-- The report's position does not exceed the turns, and it does not show both limits made (R24). -/
def Report.valid (r : Report) (turns : Nat) : Bool := decide (r.position ≤ turns) && !(r.closedLimit && r.openLimit)

/-- The accepted position has come to equal the target of a release that waits, which is withdrawn (R61); the target is read from
the record as it stands (log 36). -/
def State.releaseReached (s : State) (v : Nat) : State :=
  match s.valve? v with
  | none => s
  | some x => if x.vol.accepted = some (normalTurns x.st) then s.withdrawRelease v else s

/-- An incident takes a drift (R51, R143): a BOUNDARY step CLOSED or SKIPPED becomes FAILED where the drift acts. -/
def State.drift (s : State) (v : Nat) (i : Fin 16) : State :=
  match (s.inc i).stepFor v with
  | none => s
  | some st =>
    if st.role = .boundary ∧ (st.state = .closed ∨ st.state = .skipped) ∧ (s.inc i).triggerActs .drift = true then
      (s.setStep i v .failed none).trigger i v .drift
    else s

/-- "Held valve opened" (R51): the accepted position has left 0 while the valve is held and has no mover. That
the incidents holding it take it in ascending slot order is the model's choice (log 39). -/
def State.checkDrift (s : State) (v : Nat) (before : Option Nat) : State :=
  if before = some 0 ∧ s.accepted v ≠ some 0 ∧ s.hasMover v = false then (s.holds v).foldl (·.drift v ·) s else s

/-- The fault a report makes of a valve (R37 to R39), if any: a STUCK valve takes none anew. -/
def Report.makes (r : Report) (m : MotionState) : Option MotionState :=
  if r.torqueTrip then (if m = .stuck then none else some .stuck)
  else if r.localMode then (if m = .stuck ∨ m = .localMode then none else some .localMode)
  else none

/-- A report without trip or LOCAL ends LOCAL and UNRESPONSIVE (R37, R39). -/
def State.endFault (s : State) (v : Nat) (r : Report) : State :=
  if r.torqueTrip || r.localMode then s
  else if s.motion v = .localMode ∨ s.motion v = .unresponsive then s.setMotion v .atRest
  else s

/-- The events a report delivers (R33, R34): the runs it brings to 2, then "came to rest". The spec orders them nowhere; reached
closed, open, target, came to rest is the model's order (log 31). -/
def State.deliverRuns (s : State) (v : Nat) (before after : ValveVol) (rest : Bool) : State :=
  let s := if before.closedRun < 2 ∧ after.closedRun = 2 then s.reachedClosed v else s
  let s := if before.openRun < 2 ∧ after.openRun = 2 then s.reachedOpen v else s
  let s := if before.targetRun < 2 ∧ after.targetRun = 2 then s.reachedTarget v else s
  if rest then s.cameToRest v else s

/-- A report is taken (R32 to R39, R51). One that makes the valve STUCK or LOCAL hands the fault alone: R33 says so of the reached
events, and that it ends an awaited rest without "came to rest" is the model's choice (log 32). -/
def State.takeReport (s : State) (l : Fin 4) (v : Nat) (x : Valve) (r : Report) : State :=
  let before := x.vol
  let taken := before.take x.st.turns r
  let rest := before.awaitRest && !r.moving
  let s := s.modVol v fun _ => { taken with awaitRest := before.awaitRest && r.moving }
  let s := (s.releaseReached v).checkDrift v before.accepted
  match r.makes before.motion with
  | some m => s.enterFault l v m (faultCause m)
  | none => (s.endFault v r).deliverRuns v before taken rest

/-- REPORT (R32): the valid reply to a QUERY. -/
def execReport (line : Fin 4) (addr position : Nat) (status : Byte) (s : State) : Res :=
  let r : Report := { position := position, status := status }
  match s.valveAt line addr with
  | none => .next s
  | some (v, x) => s.onReply line addr .query (r.valid x.st.turns) fun s => s.takeReport line v x r

/-! ## Command replies -/

/-- The entry of a line's oldest command leaves its queue, or what waits takes its place (R28, R31). -/
def Line.endCommand (x : Line) : Line :=
  match x.queue with
  | [] => x
  | e :: rest =>
    match e.next with
    | none => { x with queue := rest }
    | some c => { x with queue := { e with cmd := c, next := none } :: rest }

/-- A valid reply other than a report ends UNRESPONSIVE (R37). -/
def State.answered (s : State) (v : Nat) : State := if s.motion v = .unresponsive then s.setMotion v .atRest else s

/-- The phases in which a motion timer runs (R169, R170). -/
def MotionState.isPhase : MotionState → Bool
  | .closeRun => true
  | .closeSlow => true
  | .openSlow => true
  | .openRun => true
  | .atRest => false
  | .closeWait => false
  | .openWait => false
  | .stopping => false
  | .stuck => false
  | .unresponsive => false
  | .localMode => false

/-- MOVE accepted (R31, R169): the motion timer starts, but not for a motion in STOPPING. -/
def State.moveAccepted (s : State) (v target timeout : Nat) : State :=
  let s := (s.answered v).modVol v fun x => { x with target := some target, targetRun := 0, awaitRest := false }
  match s.moverAt v with
  | none => s
  | some (l, j, _) =>
    if (s.motion v).isPhase then s.modMotion l j fun m => { m with motionTimer := some (s.now + timeout) } else s

/-- MOVE refused (R31): the target is cleared and the valve becomes LOCAL or STUCK, unless it is STUCK already. The reply hands both
the refusal (R31) and the fault (R38, R39); that the refusal comes first, so that the motion fails with cause REFUSED_LOCAL or
REFUSED_TRIP and not LOCAL or STUCK (R171), is the model's choice (log 49). -/
def State.moveRefused (s : State) (l : Fin 4) (v : Nat) (m : MotionState) (c : FailCause) : State :=
  let s := s.modVol v fun x => { x with target := none }
  if s.motion v = .stuck ∨ s.motion v = m then s else s.enterFault l v m c

/-- The outcome of a MOVE reaches the executor, which then hands again what it kept (R31, R169). -/
def State.moveOutcome (s : State) (l : Fin 4) (e : Entry) (result : Nat) : State :=
  let s := s.modLine l Line.endCommand
  let s := match e.cmd, result with
    | .move target _ _ timeout, 0 => s.moveAccepted e.valve target timeout
    | .move _ _ _ _, 1 => s.moveRefused l e.valve .localMode .refusedLocal
    | .move _ _ _ _, _ => s.moveRefused l e.valve .stuck .refusedTrip
    | .stop, _ => s
  s.rehand l

/-- MOVE_REPLY (R31): result 0 ACK, 1 REFUSE_LOCAL, 2 REFUSE_TRIP. -/
def execMoveReply (line : Fin 4) (addr result : Nat) (s : State) : Res :=
  s.onReply line addr .move (decide (result ≤ 2)) fun s =>
    match (s.line line).queue with
    | [] => s
    | e :: _ => s.moveOutcome line e result

/-- STOP accepted (R31, R34, R170): a rest report is awaited and the stop timer starts. -/
def State.stopAccepted (s : State) (v : Nat) : State :=
  let s := (s.answered v).modVol v fun x => { x with target := none, targetRun := 0, awaitRest := true }
  match s.moverAt v with
  | none => s
  | some (l, j, _) =>
    if s.motion v = .stopping then
      s.modMotion l j fun m => { m with stopTimer := some (s.now + Config.stopTimeout) }
    else s

/-- STOP_REPLY (R31): result 0 ACK. -/
def execStopReply (line : Fin 4) (addr result : Nat) (s : State) : Res :=
  s.onReply line addr .stop (decide (result = 0)) fun s =>
    match (s.line line).queue with
    | [] => s
    | e :: _ => ((s.modLine line Line.endCommand).stopAccepted e.valve).rehand line

/-! ## Samples -/

/-- A GOOD sample is stored and offered to the surge guard and to the confirmation watches (R67, R71). -/
def State.takeSample (s : State) (l : Fin 4) (k : Nat) (p : Point) (pressure : Nat) : State :=
  let s := s.modPoint k fun p => p.store { pressure := pressure, round := (s.line l).round }
  let seg := s.segOf p.asg.seg
  let s := s.guardSample k seg.rating seg.zone pressure
  allSixteen.foldl (fun s i => s.watchSample p.asg.seg i) s

/-- SAMPLE_REPLY (R40, R67, R68): quality 0 GOOD, 1 BAD. -/
def execSampleReply (line : Fin 4) (addr pressure quality : Nat) (s : State) : Res :=
  s.onReply line addr .sample (decide (pressure ≤ 2500) && decide (quality ≤ 1)) fun s =>
    match s.pointAt line addr with
    | none => s
    | some (k, p) => if quality = 0 then s.takeSample line k p pressure else s.modPoint k Point.countBad

/-! ## Misses -/

/-- A command that waits for a transaction in flight takes its entry's place (R28); otherwise the entry stays (R31). -/
def Line.missCommand (x : Line) : Line :=
  match x.queue with
  | [] => x
  | e :: rest =>
    match e.next with
    | none => x
    | some c => { x with queue := { e with cmd := c, next := none } :: rest }

/-- An actuator's miss count has risen (R36). -/
def State.actuatorMissed (s : State) (l : Fin 4) (addr : Nat) : State :=
  match s.valveAt l addr with
  | none => s
  | some (v, x) =>
    if (((s.line l).node? addr).map (·.misses)).getD 0 < 3 then s
    else match x.vol.motion with
      | .unresponsive => s
      | .stuck => s.modLine l (·.dropValve v)
      | _ => s.enterUnresponsive l v

/-- A miss is counted (R36). -/
def State.countMiss (s : State) (l : Fin 4) (addr : Nat) : State :=
  s.modLine l fun x => { x with nodes := tabMod x.nodes addr fun n => { n with misses := min 255 (n.misses + 1) } }

/-- The effect of a miss of a transaction whose node is still on the line (R28, R31, R36). -/
def State.missed (s : State) (l : Fin 4) (t : Txn) : State :=
  let s := s.countMiss l t.addr
  let s := if t.kind = .move ∨ t.kind = .stop then s.modLine l Line.missCommand else s
  if t.kind = .sample then s else s.actuatorMissed l t.addr

/-- MISS (R36): the window of the transaction in flight runs out. A transaction whose node has gone ends as neither a
reply nor a miss (R24). With no transaction in flight there is no window. -/
def execMiss (line : Fin 4) (s : State) : Res :=
  .next <|
    match (s.line line).txn with
    | none => s
    | some t =>
      let s := s.endTxn line t
      let s := if t.gone then s else s.missed line t
      (s.endVisit line t).finish

end Sys2Proof.Machine
end

