-- ==== Sys2Proof/Machine/TimerEvents.lean ====
section
/-! DEFINITION. The timers (R141, R170). An expiry brings the timebase to the timer's instant; the expiry of a timer that
does not run changes nothing. -/

namespace Sys2Proof.Machine

open Sys2Proof

/-- The timebase stands at an instant at least. -/
def State.reach (s : State) (t : Nat) : State := { s with now := max s.now t }

/-- A timer makes a motion's valve STUCK and the motion fails (R61, R170). -/
def State.timeOut (s : State) (l j : Fin 4) (m : Motion) (c : FailCause) : State :=
  let s := (s.setMotion m.valve .stuck).modLine l fun x => x.dropMoves m.valve Cmd.isMove
  (s.withdrawRelease m.valve).fail l j m c

/-- MOTION_TIMER_EXPIRY (R170): a STOP is handed, and the motion fails with cause TIMEOUT. -/
def execMotionTimerExpiry (line slot : Fin 4) (s : State) : Res :=
  .next <|
    match s.motionAt line slot with
    | none => s
    | some m =>
      match m.motionTimer with
      | none => s
      | some t => (((s.reach t).hand line m.valve .stop).timeOut line slot m .timeout).finish

/-- STOP_TIMER_EXPIRY (R170): the motion fails with cause STOP_TIMEOUT. -/
def execStopTimerExpiry (line slot : Fin 4) (s : State) : Res :=
  .next <|
    match s.motionAt line slot with
    | none => s
    | some m =>
      match m.stopTimer with
      | none => s
      | some t => ((s.reach t).timeOut line slot m .stopTimeout).finish

/-- The outcome of an expired watch (R141). -/
def State.watchExpired (s : State) (i : Fin 16) : State :=
  let s := s.modInc i fun x => { x with watch := .ended }
  if (s.freshPoints i).isEmpty then s.raiseInc i .unmonitored
  else if s.drained i then s.enterConfirmed i
  else (s.modInc i fun x => { x with state := .leakThrough }).raiseInc i .leakThrough

/-- CONFIRMATION_TIMER_EXPIRY (R141). -/
def execConfirmationTimerExpiry (slot : Fin 16) (s : State) : Res :=
  .next <|
    match (s.inc slot).watch with
    | .running t => ((s.reach t).watchExpired slot).kickPorts
    | .idle => s
    | .ended => s

end Sys2Proof.Machine
end

