-- ==== Sys2Proof/Machine/LinkEvents.lean ====
section
/-! DEFINITION. What reaches a link port but is no listed request: a frame of unknown kind, discarded frames, idle gaps, and
the end of a transmission (R182, R185, R187). -/

namespace Sys2Proof.Machine

open Sys2Proof

/-- UNKNOWN_REQUEST (R185 test 3): a good frame whose kind is 0 or above 40. A kind that R190 lists is another row's. -/
def execUnknownRequest (h : Hdr) (kind : Nat) (s : State) : Res :=
  if 1 ≤ kind ∧ kind ≤ 40 then .refused .kindIsListed
  else s.onRequest (.unknownRequest h kind) h true id

/-- The receiver of a link takes some events (R182); each discarded frame counts in the error count (R183). -/
def Port.receive (p : Port) (events : List RxEvent) : Port :=
  let (rx, n) := rxRun p.rx events
  { p with rx := rx, errors := countErrors p.errors n }

/-- DISCARDED_FRAME (R182): a frame with an unknown marker, a length above 240 or a bad CRC-16. -/
def execDiscardedFrame (link : Link) (bytes : List Byte) (s : State) : Res :=
  match frameEvents bytes with
  | [.byte] => .next (s.modPort link (·.receive [.byte]))
  | [.marker, .badLength] => .next (s.modPort link (·.receive [.marker, .badLength]))
  | [.marker, .badEnd] => .next (s.modPort link (·.receive [.marker, .badEnd]))
  | _ => .refused .frameIsNotDiscarded

/-- IDLE_GAP (R182), with the bytes of the short frame it cuts off, if one had begun. -/
def execIdleGap (link : Link) (short : List Byte) (s : State) : Res :=
  match frameEvents short with
  | [] => .next (s.modPort link (·.receive [.gap]))
  | [.marker] => .next (s.modPort link (·.receive [.marker, .gap]))
  | _ => .refused .frameIsNotDiscarded

/-- The frame in transmission has been sent, and the transmitter goes on (R187). -/
def Port.sent (p : Port) : Port :=
  match p.sending with
  | none => p
  | some _ => ({ p with sending := none } : Port).kick

/-- TRANSMISSION_END (R187): with nothing in transmission none ends. -/
def execTransmissionEnd (link : Link) (s : State) : Res := .next (s.modPort link Port.sent)

end Sys2Proof.Machine
end

