-- ==== Sys2Proof/Machine/Reset.lean ====
section
/-! DEFINITION. Power-on and the RESET input (R19, R20): every block takes its reset values, the store is loaded, and
every line starts its first poll round. The queue of commands that wait outside the part is kept. -/

namespace Sys2Proof.Machine

open Sys2Proof

/-- The store as a start-up finds it: a write in progress is cut short and leaves its area bad (R16, R18); writes that
wait are lost. -/
def Store.cut (x : Store) : Store :=
  match x.active with
  | none => { x with due := [] }
  | some (.image _ _) => { x with image := .bad, active := none, due := [] }
  | some (.locks _ _) => { x with locks := .bad, active := none, due := [] }

/-- The image a start-up loads, if its area checks good (R16, R17): a failed image write left it bad. -/
def Store.loadImage (x : Store) : Option Image :=
  match x.image with
  | .good c => some c
  | .bad => none
  | .doubtful _ => none

/-- The lock list a start-up loads, if its area checks good; a doubtful area's check is open (R56, log 1). -/
def Store.loadLocks (x : Store) (n : Nat) : Option (List LockEntry) :=
  match x.locks with
  | .good c => some c
  | .bad => none
  | .doubtful c => if Config.lockAreaChecksGood n then some c else none

/-- The lock area once checked: what was open is settled. -/
def Store.settleLocks (x : Store) (n : Nat) : Store :=
  { x with locks := match x.loadLocks n with
      | some c => .good c
      | none => .bad }

/-- The empty model (R19). -/
def Image.empty : Image where
  segs := []
  valves := []
  zones := Vector.replicate 8 ZoneRec.start
  feeds := []
  points := []
  rules := Vector.replicate 32 Rule.empty
  groups := Group.emptyTable
  revision := 0

/-- The poll ring of a line over a loaded model (R22, R26). -/
def Image.ring (x : Image) (l : Fin 4) : List (Nat × Node) :=
  let addrs := (x.valves.filter fun (_, st) => decide (st.line = l)).map (·.2.addr) ++
    (x.points.filter fun (_, a) => decide (a.line = l)).map (·.2.addr)
  addrs.foldl (fun t a => tabPut t a { misses := 0, lastValid := none }) []

/-- A line as start-up begins it (R20, R22): one with an empty ring has completed its start-up rounds; another begins
round 1. -/
def Image.line (x : Image) (l : Fin 4) : Line :=
  let nodes := x.ring l
  if nodes.isEmpty then { Line.reset with startRounds := 2 }
  else { Line.reset with nodes := nodes, cursor := tabFirst nodes, round := 1 }

/-- The machine with every block at its reset values and a loaded model (R19). -/
def State.load (pending : List Instr) (store : Store) (x : Image) (locks : List LockEntry) (n : Nat) : State where
  pending := pending
  now := 0
  device := .starting
  segs := x.segs
  valves := x.valves.map fun (v, st) => (v, { st := st, vol := ValveVol.fresh })
  zones := x.zones.map Zone.fresh
  feeds := x.feeds
  points := x.points.map fun (k, a) => (k, Point.start a)
  revision := x.revision
  rules := x.rules
  groups := x.groups
  store := store
  lines := Vector.ofFn x.line
  locks := locks
  releaseCount := 0
  orphanCount := 0
  planner := { queue := [], comp := none }
  incidents := Vector.replicate 16 Incident.empty
  tagCounter := 0
  grantMode := .fixed
  portA := Port.reset
  portB := Port.reset
  portS := Port.reset
  openChecks := n

/-- STARTING is over at once when no line has a node to poll (R20). -/
def State.beginStartup (s : State) : State := if s.startupDone then { s with device := .running } else s

/-- Power-on or RESET (R19). `openChecks` counts a doubtful lock area met. -/
def State.powerOn (s : State) : State :=
  let store := s.store.cut
  let n := s.openChecks
  let image := store.loadImage
  let locks := store.loadLocks n
  let open_ := match store.locks with
    | .doubtful _ => 1
    | .good _ => 0
    | .bad => 0
  let t := State.load s.pending (store.settleLocks n) (image.getD Image.empty) (locks.getD []) (n + open_)
  let t := if image.isNone then t.raiseDev .modelLost else t
  let t := if locks.isNone then t.raiseDev .locksLost else t
  t.beginStartup.finish

/-- RESET (R19). -/
def execReset (s : State) : Res := .next s.powerOn

end Sys2Proof.Machine
end

