-- ==== Sys2Proof/Machine/Dispatch.lean ====
section
/-! DEFINITION. Every command with its meaning. -/

namespace Sys2Proof.Machine

open Sys2Proof

def exec (i : Instr) (s : State) : Host.Outcome State Fault Refusal :=
  match i with
  | .reset => Sys2Proof.Machine.execReset s
  | .readDevice h => Sys2Proof.Machine.execReadDevice h s
  | .readSeg h seg => Sys2Proof.Machine.execReadSeg h seg s
  | .readValve h valve => Sys2Proof.Machine.execReadValve h valve s
  | .readZone h zone => Sys2Proof.Machine.execReadZone h zone s
  | .readPoint h point => Sys2Proof.Machine.execReadPoint h point s
  | .readLine h line addr => Sys2Proof.Machine.execReadLine h line addr s
  | .readPolicy h table start => Sys2Proof.Machine.execReadPolicy h table start s
  | .readIncident h slot => Sys2Proof.Machine.execReadIncident h slot s
  | .readPlan h slot tag part start => Sys2Proof.Machine.execReadPlan h slot tag part start s
  | .readLocks h start => Sys2Proof.Machine.execReadLocks h start s
  | .readAttention h => Sys2Proof.Machine.execReadAttention h s
  | .readLink h named => Sys2Proof.Machine.execReadLink h named s
  | .segPut h seg use zone length celerity rating diameter protection => Sys2Proof.Machine.execSegPut h seg use zone length celerity rating diameter protection s
  | .segDrop h seg => Sys2Proof.Machine.execSegDrop h seg s
  | .valvePut h valve sideA sideB line addr size turns maxSpeed minSpeed velocity normal mark => Sys2Proof.Machine.execValvePut h valve sideA sideB line addr size turns maxSpeed minSpeed velocity normal mark s
  | .valveDrop h valve => Sys2Proof.Machine.execValveDrop h valve s
  | .zonePut h zone nominal drained window allowance => Sys2Proof.Machine.execZonePut h zone nominal drained window allowance s
  | .feedSet h segs => Sys2Proof.Machine.execFeedSet h segs s
  | .pointPut h point assigned seg line addr => Sys2Proof.Machine.execPointPut h point assigned seg line addr s
  | .rulePut h rule stage test cmp low high exclude cls conc mode value => Sys2Proof.Machine.execRulePut h rule stage test cmp low high exclude cls conc mode value s
  | .groupPut h group enabled members lead => Sys2Proof.Machine.execGroupPut h group enabled members lead s
  | .modelStore h => Sys2Proof.Machine.execModelStore h s
  | .grantMode h mode slot tag => Sys2Proof.Machine.execGrantMode h mode slot tag s
  | .lineStop h line => Sys2Proof.Machine.execLineStop h line s
  | .lineStart h line => Sys2Proof.Machine.execLineStart h line s
  | .mark h valves value => Sys2Proof.Machine.execMark h valves value s
  | .lock h valve => Sys2Proof.Machine.execLock h valve s
  | .unlock h valve force => Sys2Proof.Machine.execUnlock h valve force s
  | .release h valve => Sys2Proof.Machine.execRelease h valve s
  | .openInc h seg prio => Sys2Proof.Machine.execOpen h seg prio s
  | .concur h slot tag => Sys2Proof.Machine.execConcur h slot tag s
  | .withdraw h slot tag => Sys2Proof.Machine.execWithdraw h slot tag s
  | .hold h slot tag => Sys2Proof.Machine.execHold h slot tag s
  | .resume h slot tag => Sys2Proof.Machine.execResume h slot tag s
  | .extend h slot tag valves => Sys2Proof.Machine.execExtend h slot tag valves s
  | .confirm h slot tag => Sys2Proof.Machine.execConfirm h slot tag s
  | .restore h slot tag => Sys2Proof.Machine.execRestore h slot tag s
  | .abandon h slot tag => Sys2Proof.Machine.execAbandon h slot tag s
  | .noticeMask h inc dev value => Sys2Proof.Machine.execNoticeMask h inc dev value s
  | .ack h target tag flags => Sys2Proof.Machine.execAck h target tag flags s
  | .unknownRequest h kind => Sys2Proof.Machine.execUnknownRequest h kind s
  | .discardedFrame link bytes => Sys2Proof.Machine.execDiscardedFrame link bytes s
  | .idleGap link short => Sys2Proof.Machine.execIdleGap link short s
  | .transmissionEnd link => Sys2Proof.Machine.execTransmissionEnd link s
  | .imageWriteEnd content crc => Sys2Proof.Machine.execImageWriteEnd content crc s
  | .lockAreaWriteEnd content crc => Sys2Proof.Machine.execLockAreaWriteEnd content crc s
  | .computationEnd => Sys2Proof.Machine.execComputationEnd s
  | .report line addr position status => Sys2Proof.Machine.execReport line addr position status s
  | .moveReply line addr result => Sys2Proof.Machine.execMoveReply line addr result s
  | .stopReply line addr result => Sys2Proof.Machine.execStopReply line addr result s
  | .sampleReply line addr pressure quality => Sys2Proof.Machine.execSampleReply line addr pressure quality s
  | .miss line => Sys2Proof.Machine.execMiss line s
  | .motionTimerExpiry line slot => Sys2Proof.Machine.execMotionTimerExpiry line slot s
  | .stopTimerExpiry line slot => Sys2Proof.Machine.execStopTimerExpiry line slot s
  | .confirmationTimerExpiry slot => Sys2Proof.Machine.execConfirmationTimerExpiry slot s

end Sys2Proof.Machine
end

