-- ==== Sys2Proof/Safety.lean ====
section
/-! DEFINITION. The terms in which claims about the machine are stated: the part of the state that nothing which falls due
of itself ever changes (`Kept`), when a request is admitted, and what must hold between commands (the invariants). -/

namespace Sys2Proof.Machine

open Sys2Proof

/-! ## What happens of itself leaves alone -/

/-- The replies of a link that are not sent yet, oldest first, with the one in transmission (R187). -/
def Port.answers (p : Port) : List Reply :=
  (match p.sending with
    | some (.reply r) => [r]
    | some (.notice _ _) => []
    | none => []) ++ p.replies

/-- What a link port holds beside its attention and its transmitter's turn: receiver, error count, slot, masks and the
replies not sent yet. -/
structure PortKept where
  rx : Rx
  errors : Nat
  slot : Option Held
  incMask : IncWord
  devMask : DevWord
  answers : List Reply
  deriving DecidableEq, Repr

def Port.kept (p : Port) : PortKept where
  rx := p.rx
  errors := p.errors
  slot := p.slot
  incMask := p.incMask
  devMask := p.devMask
  answers := p.answers

/-- What a line keeps of its poll ring and rounds (R20, R22). -/
structure Poll where
  nodes : List (Nat × Node)
  round : Count32
  startRounds : Nat
  deriving DecidableEq, Repr

def Line.poll (x : Line) : Poll := { nodes := x.nodes, round := x.round, startRounds := x.startRounds }

/-- The part of the state that changes by a command's own effect only, never by what falls due of itself after it
(`State.settle`: grants, waves, isolation, lines stopping, transactions). `image` is all that the store image holds (R16);
`positions` are the reported and accepted position of every valve, `samples` the ring and BAD count of every point. -/
structure Kept where
  pending : List Instr
  now : Nat
  device : DevState
  image : Image
  positions : List (Nat × Option Nat × Option Nat)
  samples : List (Nat × List Sample × Nat)
  polls : Vector Poll 4
  store : Store
  locks : List LockEntry
  releaseCount : Count32
  tagCounter : Nat
  grantMode : GrantMode
  openChecks : Nat
  portA : PortKept
  portB : PortKept
  portS : PortKept
  deriving DecidableEq, Repr

def State.positions (s : State) : List (Nat × Option Nat × Option Nat) :=
  s.valves.map fun (v, x) => (v, x.vol.reported, x.vol.accepted)

def State.samples (s : State) : List (Nat × List Sample × Nat) := s.points.map fun (k, p) => (k, p.ring, p.bad)

def State.kept (s : State) : Kept where
  pending := s.pending
  now := s.now
  device := s.device
  image := s.image
  positions := s.positions
  samples := s.samples
  polls := s.lines.map Line.poll
  store := s.store
  locks := s.locks
  releaseCount := s.releaseCount
  tagCounter := s.tagCounter
  grantMode := s.grantMode
  openChecks := s.openChecks
  portA := s.portA.kept
  portB := s.portB.kept
  portS := s.portS.kept

/-- A reply made on a link: it joins that link's replies, and nothing else of `Kept` changes. -/
def PortKept.answered (p : PortKept) (r : Reply) : PortKept := { p with answers := p.answers ++ [r] }

def Kept.answered (k : Kept) (l : Link) (r : Reply) : Kept :=
  match l with
  | .A => { k with portA := k.portA.answered r }
  | .B => { k with portB := k.portB.answered r }
  | .S => { k with portS := k.portS.answered r }

/-- The reply to the request that held a link's slot: the slot is free and the reply joins that link's replies. -/
def PortKept.released (p : PortKept) (r : Reply) : PortKept := { p with slot := none, answers := p.answers ++ [r] }

def Kept.released (k : Kept) (l : Link) (r : Reply) : Kept :=
  match l with
  | .A => { k with portA := k.portA.released r }
  | .B => { k with portB := k.portB.released r }
  | .S => { k with portS := k.portS.released r }

/-- A request held in a link's slot. -/
def Kept.held (k : Kept) (l : Link) (q : Held) : Kept :=
  match l with
  | .A => { k with portA := { k.portA with slot := some q } }
  | .B => { k with portB := { k.portB with slot := some q } }
  | .S => { k with portS := { k.portS with slot := some q } }

/-! ## Requests -/

/-- The reply to a request: its kind and tag with an outcome and items (R189). -/
def replyTo (i : Instr) (h : Hdr) (o : Out) (items : List Item) : Reply :=
  { kind := i.code?.getD 0, tag := h.tag, outcome := o, items := items }

/-- The state with a reply to a request posted on its link, and nothing else changed. -/
def State.answers (s : State) (i : Instr) (h : Hdr) (o : Out) (items : List Item) : State :=
  s.modPort h.link (·.post (replyTo i h o items))

/-- A link port that takes a request: receiver IDLE, fewer than four replies queued, the slot free (R182, R185 tests 1 and
2). -/
def Port.takes (p : Port) : Prop := p.rx = .idle ∧ p.replies.length < Config.maxReplies ∧ p.slot = none

/-- A request that its link admits as far as tests 1 to 4 of R185 go: the port takes it and its length is that of its
items, at most 240 (R181). -/
def State.ready (s : State) (i : Instr) (h : Hdr) : Prop :=
  (s.port h.link).takes ∧ h.len = i.bodyLen ∧ i.bodyLen ≤ Config.maxBody

/-- The same, in the device state RUNNING. -/
def State.readyRunning (s : State) (i : Instr) (h : Hdr) : Prop := s.ready i h ∧ s.device = .running

/-- A model edit that passes tests 1 to 3 of R6 on a control link: RUNNING, no image write, the planner not busy, no
incident in use. -/
def State.readyToEdit (s : State) (i : Instr) (h : Hdr) : Prop :=
  s.readyRunning i h ∧ isControl h.link = true ∧ s.imageWriting = false ∧ s.plannerBusy = false ∧ s.anyInUse = false

/-- A policy edit that passes tests 1 and 2 of R120 and R123 on a control link. -/
def State.readyForPolicy (s : State) (i : Instr) (h : Hdr) : Prop :=
  s.readyRunning i h ∧ isControl h.link = true ∧ s.imageWriting = false ∧ s.plannerBusy = false

/-- The seven model edits (section 1.4). -/
def isModelEdit (i : Instr) : Bool :=
  match i.code? with
  | some n => decide (13 ≤ n) && decide (n ≤ 19)
  | none => false

/-- The right of a link for a request (R188): the edits, the policy edits, MODEL_STORE, GRANT_MODE, LINE_STOP and
LINE_START from a control link only, and UNLOCK with FORCE likewise. -/
def permitted (i : Instr) (l : Link) : Bool :=
  match i with
  | .unlock _ _ f => isControl l || decide (f ≠ 1)
  | _ => isControl l || decide (i.code?.getD 0 < 13) || decide (25 < i.code?.getD 0)

/-- An item of a request that names an incident (R127): its slot and tag. -/
def namesIncident : Instr → Option (Nat × Nat)
  | .concur _ i t => some (i, t)
  | .withdraw _ i t => some (i, t)
  | .hold _ i t => some (i, t)
  | .resume _ i t => some (i, t)
  | .extend _ i t _ => some (i, t)
  | .confirm _ i t => some (i, t)
  | .restore _ i t => some (i, t)
  | .abandon _ i t => some (i, t)
  | _ => none

/-- A request that names an incident and is taken as far as tests 1 to 3 of R127 go. -/
def State.readyToName (s : State) (i : Instr) (h : Hdr) (k : Fin 16) (tag : Nat) : Prop :=
  s.readyRunning i h ∧ s.tenancy k tag = true

/-! ## Commands that carry a whole record -/

/-- The SEG_PUT that carries the fields of a segment record (R184). -/
def Seg.put (x : Seg) (h : Hdr) (n : Nat) : Instr :=
  .segPut h n x.use.code x.zone.val x.length x.celerity x.rating x.diameter x.protection.code

/-- The VALVE_PUT that carries a static valve record; an EXTERNAL side B is 65,535 (R184). -/
def ValveStatic.put (x : ValveStatic) (h : Hdr) (v : Nat) : Instr :=
  .valvePut h v x.sideA (x.sideB.getD 65535) x.line.val x.addr x.size x.turns x.maxSpeed x.minSpeed x.velocity
    x.normal.code x.mark.code

/-- The ZONE_PUT that carries a zone record. -/
def ZoneRec.put (x : ZoneRec) (h : Hdr) (z : Nat) : Instr := .zonePut h z x.nominal x.drained x.window x.allowance

/-- The RULE_PUT that carries a policy rule. -/
def Rule.put (x : Rule) (h : Hdr) (k : Nat) : Instr :=
  .rulePut h k x.stage.code x.test.val x.cmp.code x.low x.high x.exclude.toNat x.cls.code x.concurrence.toNat x.mode.code
    x.value

/-- The POINT_PUT that carries an assignment. -/
def PointAssign.put (x : PointAssign) (h : Hdr) (k : Nat) : Instr := .pointPut h k 1 x.seg x.line.val x.addr

/-- A rule lies within its values: it names a test of its stage, a range is not empty, a priority is at most 3 (R110). -/
def Rule.inRange (x : Rule) : Prop := x.stage.mayName x.test = true ∧ x.cmp.rangeOk x.low x.high = true ∧ x.value ≤ 3

/-- The state with the model revision counted (R14). -/
def State.counted (s : State) : State := { s with revision := s.revision + 1 }

/-- The request held in the slot of its link (R186). -/
def heldAs (i : Instr) (h : Hdr) : Held := { code := i.code?.getD 0, tag := h.tag }

/-- The state in which an admitted request is handed to its rule: it holds its link's slot (R186). -/
def State.holding (s : State) (i : Instr) (h : Hdr) : State := s.modPort h.link fun p => { p with slot := some (heldAs i h) }

/-! ## What holds between commands: the network model (R1 to R5, R63, R121) -/

/-- The fields of a segment record lie within their values (R1). -/
def Seg.inRange (x : Seg) : Prop :=
  1 ≤ x.length ∧ x.length ≤ 4000 ∧ 300 ≤ x.celerity ∧ x.celerity ≤ 1400 ∧ 400 ≤ x.rating ∧ x.rating ≤ 2500 ∧
    50 ≤ x.diameter ∧ x.diameter ≤ 1200

/-- The fields of a static valve record lie within their values (R2). -/
def ValveStatic.inRange (x : ValveStatic) : Prop :=
  1 ≤ x.addr ∧ x.addr ≤ 192 ∧ 50 ≤ x.size ∧ x.size ≤ 1200 ∧ 1 ≤ x.turns ∧ x.turns ≤ 1500 ∧ 1 ≤ x.minSpeed ∧
    x.minSpeed ≤ x.maxSpeed ∧ x.maxSpeed ≤ 60 ∧ x.velocity ≤ 3000

/-- The fields of a zone record lie within their values (R4). -/
def ZoneRec.inRange (x : ZoneRec) : Prop :=
  100 ≤ x.nominal ∧ x.nominal ≤ 1000 ∧ x.drained ≤ 200 ∧ 60 ≤ x.window ∧ x.window ≤ 3600 ∧ 1 ≤ x.allowance ∧
    x.allowance ≤ 4

/-- Segments, valves and points are listed in their one canonical form, within their tables, with fields in range. -/
def Image.shaped (x : Image) : Prop :=
  tabRising x.segs = true ∧ tabRising x.valves = true ∧ tabRising x.points = true ∧
    (∀ n y, tabGet x.segs n = some y → n < Config.maxSegs ∧ y.inRange) ∧
    (∀ v y, tabGet x.valves v = some y → v < Config.maxValves ∧ y.inRange) ∧
    (∀ k y, tabGet x.points k = some y → k < Config.maxPoints ∧ 200 ≤ y.addr ∧ y.addr ≤ 231) ∧
    ∀ z : Fin 8, (x.zones.get z).inRange

/-- A segment is a side of a valve. -/
def ValveStatic.hasSide (st : ValveStatic) (n : Nat) : Prop := st.sideA = n ∨ st.sideB = some n

/-- Lists and sides agree (R3), and every reference names a defined record (R2, R5, R63). -/
def Image.agrees (x : Image) : Prop :=
  (∀ n y, tabGet x.segs n = some y →
    y.valves.Nodup ∧ y.valves.length ≤ Config.maxValveList ∧
      ∀ v, v ∈ y.valves ↔ ∃ st, tabGet x.valves v = some st ∧ st.hasSide n) ∧
  (∀ v st, tabGet x.valves v = some st →
    st.sideB ≠ some st.sideA ∧ ∀ n, st.hasSide n → (tabGet x.segs n).isSome = true) ∧
  (x.feeds.Nodup ∧ x.feeds.length ≤ Config.maxFeeds ∧ ∀ n ∈ x.feeds, (tabGet x.segs n).isSome = true) ∧
  ∀ k a, tabGet x.points k = some a → (tabGet x.segs a.seg).isSome = true

/-- No two valves share a line and an address (R2), no two points a segment or a line and an address (R63). -/
def Image.distinct (x : Image) : Prop :=
  (∀ v w a b, tabGet x.valves v = some a → tabGet x.valves w = some b → a.line = b.line → a.addr = b.addr → v = w) ∧
  ∀ j k a b, tabGet x.points j = some a → tabGet x.points k = some b →
    (a.seg = b.seg ∨ (a.line = b.line ∧ a.addr = b.addr)) → j = k

/-- The policy tables: a rule names a test of its stage, a group has members and its lead among them, and an enabled group
is never MIXED (R110, R114, R121). -/
def Image.unmixed (x : Image) : Prop :=
  (∀ k : Fin 32, (x.rules.get k).stage.mayName (x.rules.get k).test = true ∧ (x.rules.get k).value ≤ 3) ∧
  ∀ g : Fin 16, (x.groups.get g).lead ∈ (x.groups.get g).members ∧
    ((x.groups.get g).enabled = true → (groupStage x.rules (x.groups.get g).members).isSome = true)

/-- All of it. -/
structure Image.sound (x : Image) : Prop where
  shaped : x.shaped
  agrees : x.agrees
  distinct : x.distinct
  unmixed : x.unmixed

/-- What the store holds or is about to hold of images is sound. -/
def Store.sound (x : Store) : Prop :=
  (∀ c, x.image = .good c ∨ x.image = .doubtful c → c.sound) ∧ (∀ l c, x.active = some (.image l c) → c.sound) ∧
    ∀ l c, .image l c ∈ x.due → c.sound

/-- The network model and every stored or captured image of it are sound. -/
def State.modelSound (s : State) : Prop := s.image.sound ∧ s.store.sound

/-! ## What holds between commands: incidents (R48, R94, R126 to R129, R146) -/

/-- An exclusion list holds at most 16 valves and none twice (R126, R144). -/
def Incident.exclSound (x : Incident) : Prop := x.excl.length ≤ Config.maxExcl ∧ x.excl.Nodup

/-- A plan has at most 48 steps and no valve twice (R94, R146). -/
def Incident.stepsSound (x : Incident) : Prop := x.steps.length ≤ Config.maxSteps ∧ x.stepValves.Nodup

/-- A FREE slot has nothing left of its tenancy but what R128 keeps; one in use has its tag, link and burst segment, and in
PLANNING no plan yet (R130). -/
def Incident.sound (x : Incident) : Prop :=
  (∀ t, x.tag = some t → t ≤ 65534) ∧ x.exclSound ∧ x.stepsSound ∧ (x.state = .planning → x.plan = none) ∧
    if x.state = .free then
      x.watch = .idle ∧ x.plan = none ∧ x.excl = [] ∧ x.current = none ∧ x.staged = none ∧ x.failure = none ∧ x.flags = 0
    else x.tag.isSome = true ∧ x.link.isSome = true ∧ x.burst.isSome = true

/-- A computation gathers at most 48 boundary valves, each examined once (R78, R81). -/
def Comp.sound (c : Comp) : Prop :=
  c.boundary.length ≤ Config.maxSteps ∧ (c.boundary.map (·.valve)).Nodup ∧ ∀ p ∈ c.boundary, p.valve ∈ c.examined

/-- A hold set names no slot twice, only incidents in use, and each of those lists the valve among its plan steps (R48). -/
def State.holdsSound (s : State) : Prop :=
  ∀ v, (s.holds v).Nodup ∧ ∀ i ∈ s.holds v, (s.inc i).inUse = true ∧ v ∈ (s.inc i).stepValves

/-- The incident table is sound, no two incidents in use have the same burst segment (R129), the hold sets are sound, and so
is the computation in progress. -/
def State.incidentsSound (s : State) : Prop :=
  s.tagCounter ≤ 65534 ∧ (∀ i, (s.inc i).sound) ∧
    (∀ i k, (s.inc i).inUse = true → (s.inc k).inUse = true → (s.inc i).burst = (s.inc k).burst → i = k) ∧
    s.holdsSound ∧ ∀ c, s.planner.comp = some c → c.sound

/-! ## What holds between commands: the computation in progress (R77 to R85) -/

/-- Every side that a valve has lies in a zone: both, or the one of a valve that leads out of the district. -/
def ValveStatic.within (st : ValveStatic) (zone : List Nat) : Prop :=
  st.sideA ∈ zone ∧ ∀ n, st.sideB = some n → n ∈ zone

/-- The valve is among those found as steps. -/
def Comp.finds (c : Comp) (v : Nat) : Prop := v ∈ c.boundary.map (·.valve)

/-- The examined valves that lead out of the district and are no steps, the last examined first (R80). -/
def State.edgesOf (s : State) (c : Comp) : List Nat :=
  c.examined.filter fun v =>
    decide (((s.valve? v).map (·.st.sideB)) = some none) && !(c.boundary.map (·.valve)).contains v

/-- The search is over: the boundary list stands in final form (R82). -/
def CompStage.searched : CompStage → Bool
  | .search => false
  | .trim => false
  | .feeds => true
  | .stranded => true
  | .policy => true
  | .timing => true
  | .ready => true
  | .failed _ => false

/-- The stranded analysis is over, or there was none to make (R83, R85). -/
def CompStage.analysed : CompStage → Bool
  | .policy => true
  | .timing => true
  | .ready => true
  | .search => false
  | .trim => false
  | .feeds => false
  | .stranded => false
  | .failed _ => false

/-- The zone, its stack and the examined marks (R77, R78, R80). -/
structure Comp.zoneSound (c : Comp) : Prop where
  burst : c.zone ≠ []
  once : c.zone.Nodup
  bound : c.zone.length ≤ Config.maxZone
  pushed : c.stack.Nodup ∧ ∀ n ∈ c.stack, n ∈ c.zone
  examined : c.examined.Nodup
  failed : (c.stage = .failed .zoneLimit → c.zone.length = Config.maxZone) ∧
    (c.stage = .failed .stepLimit → c.boundary.length = Config.maxSteps)

/-- How far the search has come, while it has not failed (R78 to R82): the list being gone through is of a zone segment; every
valve of a zone segment is examined or still to come; every examined valve is a step found or has its sides in the zone or on the
district edge; the steps touch the zone, after the search with one side only; and the open-edge record is that of R80. -/
structure State.searches (s : State) (c : Comp) : Prop where
  list : c.stage = .search → ∀ n rest, c.cur = some (n, rest) → n ∈ c.zone ∧ ∀ v ∈ rest, v ∈ (s.segOf n).valves
  covered : ∀ n ∈ c.zone, ∀ v ∈ (s.segOf n).valves,
    v ∈ c.examined ∨ (c.stage = .search ∧ (n ∈ c.stack ∨ ∃ rest, c.cur = some (n, rest) ∧ v ∈ rest))
  enclosed : ∀ v ∈ c.examined, ∀ x, s.valve? v = some x → c.finds v ∨ x.st.within c.zone
  touching : ∀ v, c.finds v → ∃ x, s.valve? v = some x ∧ ∃ n ∈ c.zone, x.st.hasSide n
  trimmed : c.stage.searched = true → ∀ v, c.finds v → s.inside c.zone v = false
  edges : c.edgeCount = (s.edgesOf c).length ∧ c.edgeValves = (s.edgesOf c).reverse.take Config.maxEdgeValves

/-- What the stranded analysis has visited (R84): every feed outside the zone and nothing within it, and of the defined segments
visited each is gone through, on the stack, or left to a rescan. -/
structure State.analyses (s : State) (c : Comp) : Prop where
  outside : ∀ n ∈ c.visited, n ∉ c.zone
  feeds : ∀ n ∈ s.feeds, n ∉ c.zone → n ∈ c.visited
  spilled : c.spill.length ≤ Config.maxSpill ∧ ∀ n ∈ c.spill, n ∈ c.visited
  explored : ∀ n ∈ c.visited, s.seg? n ≠ none → n ∈ c.explored ∨ n ∈ c.spill ∨ c.spillFlag = true

/-- What the analysis found (R85): the defined segments outside the zone that it did not visit, and no visited one left over. -/
structure State.strands (s : State) (c : Comp) : Prop where
  noFeeds : c.noFeeds = s.feeds.isEmpty
  found : c.stranded = if s.feeds.isEmpty then [] else
    (s.segs.map (·.1)).filter fun n => !c.zone.contains n && !c.visited.contains n
  complete : s.feeds ≠ [] → ∀ n ∈ c.visited, s.seg? n ≠ none → n ∈ c.explored
  protection : c.protection = s.protectionOver (c.zone ++ c.stranded)

/-- The working sets of the computation in progress are sound. -/
def State.searchSound (s : State) : Prop :=
  ∀ c, s.planner.comp = some c →
    c.zoneSound ∧ ((∀ r, c.stage ≠ .failed r) → s.searches c) ∧
      (c.stage.analysed = false → c.noFeeds = false) ∧ (c.stage = .stranded → s.analyses c) ∧
      (c.stage.analysed = true → (s.feeds ≠ [] → s.analyses c) ∧ s.strands c)

/-! ## What holds between commands: the slow-phase allowance (R165) -/

/-- A valve in CLOSE_SLOW or OPEN_SLOW. -/
def MotionState.isSlow (m : MotionState) : Prop := m = .closeSlow ∨ m = .openSlow

/-- A valve in a slow phase has a mover and holds its zone's allowance; a request stands in the zone of its valve, which has a
mover; and in each zone the valves in a slow phase are no more than its allowance, and none while it is GUARDED. -/
def State.allowanceSound (s : State) : Prop :=
  (∀ v, (s.motion v).isSlow → s.hasMover v = true ∧ v ∈ (s.zone (s.zoneOf v)).holders) ∧
    (∀ z, ∀ v ∈ (s.zone z).requests, s.zoneOf v = z ∧ s.hasMover v = true) ∧
    ∀ z, s.slowCount z ≤ (s.zone z).record.allowance ∧ ((s.zone z).guard = .guarded → s.slowCount z = 0)

/-! ## What holds between commands: lists and queues -/

/-- The lock list holds at most 64 entries and no valve twice (R54). -/
def locksSound (l : List LockEntry) : Prop := l.length ≤ Config.maxLocks ∧ (l.map (·.valve)).Nodup

/-- The lock list, and every stored or captured one. -/
def State.lockListsSound (s : State) : Prop :=
  locksSound s.locks ∧ (∀ c, s.store.locks = .good c ∨ s.store.locks = .doubtful c → locksSound c) ∧
    ∀ l c, s.store.active = some (.locks l c) → locksSound c

/-- A line's command queue holds at most 16 entries and at most one for any valve (R28). -/
def Line.queueSound (x : Line) : Prop := x.queue.length ≤ Config.maxQueue ∧ (x.queue.map (·.valve)).Nodup

/-- A link port between commands: its receiver is not in the middle of a frame (R182), and it holds at most four replies
besides that of the request in its slot (R187). -/
def Port.sound (p : Port) : Prop :=
  p.rx ≠ .receiving ∧ p.errors ≤ 65535 ∧ p.replies.length + (if p.slot.isSome then 1 else 0) ≤ Config.maxReplies + 1

/-- Every queue of the block keeps its bound, the planner queue naming no incident twice (R73). -/
def State.queuesSound (s : State) : Prop :=
  (∀ l, (s.line l).queueSound) ∧ s.planner.queue.Nodup ∧ ∀ l, (s.port l).sound

end Sys2Proof.Machine
end

