-- ==== Sys2Proof/Certificates/Slice0/Obligations.lean ====
section
/-! DEFINITION. The statements for the provers. "Everything due follows" is `State.finish`: a command that concerns the field
side answers `u.finish`, where u is the state its own effect leaves; what `State.finish` can change is everything outside
`Kept` (Safety), so a clause about `u.kept` is a clause about the next state. `answers i h o items` posts the reply of a
request on its link and changes nothing else. -/

open Sys2Proof Sys2Proof.Machine

/-! ## The block as a whole -/

/-- A step takes the command at the front of the queue and runs it on the state with the queue's rest. -/
def Obligations.StepRunsTheFrontCommand : Prop :=
  ∀ (c : Instr) (rest : List Instr) (s : State), s.pending = c :: rest → step s = exec c { s with pending := rest }

/-- On an empty queue a step lets one millisecond pass and lets the computation in progress, if any, take one action over the
state as it stands; nothing else changes (the model's choice, log 3). -/
def Obligations.IdleStepPassesOneMillisecond : Prop :=
  ∀ s : State, s.pending = [] →
    ∃ t, step s = .next t ∧ t.now = s.now + 1 ∧ { t with now := s.now, planner := s.planner } = s ∧
      t.planner.queue = s.planner.queue ∧ t.planner.comp = s.planner.comp.map s.act

/-- The state right after power-on with a store never written has the reset values the rules give, and RESET gives it again (power-on
with a virgin store is the model's choice of reset state, log 4). -/
def Obligations.ResetStateHasTheResetValues : Prop :=
  (let s := State.reset
  s.device = .running ∧ s.image = Image.empty ∧ s.locks = [] ∧ s.releaseCount = 0 ∧ s.orphanCount = 0 ∧
    s.tagCounter = 0 ∧ s.grantMode = .fixed ∧ s.planner.queue = [] ∧ s.planner.comp = none ∧
    (∀ i : Fin 16, (s.inc i).state = .free ∧ (s.inc i).tag = none ∧ (s.inc i).plan = none ∧ (s.inc i).excl = []) ∧
    (∀ l : Fin 4, (s.line l).state = .running ∧ (s.line l).queue = [] ∧ (s.line l).rotation = 3 ∧
      (s.line l).txn = none ∧ (s.line l).round = 0 ∧ (s.line l).arbiter = 15 ∧
      ∀ j : Fin 4, (s.line l).slots.get j = none) ∧
    (∀ z : Fin 8, (s.zone z).record = { nominal := 1000, drained := 0, window := 3600, allowance := 1 } ∧
      (s.zone z).guard = .clear ∧ (s.zone z).holders = [] ∧ (s.zone z).requests = [] ∧ (s.zone z).arbiter = 15) ∧
    ∀ l : Link, (s.port l).rx = .discarding ∧ (s.port l).errors = 0 ∧ (s.port l).slot = none ∧
      (s.port l).replies = [] ∧ (s.port l).incMask = 0x1FFF ∧ (s.port l).devMask = 0x3F ∧
      (s.port l).device = DevFlag.modelLost.bit ||| DevFlag.locksLost.bit) ∧
  (exec .reset State.reset = .next State.reset)

/-- The state right after power-on satisfies every invariant stated below. -/
def Obligations.ResetStateIsSound : Prop :=
  State.reset.modelSound ∧ State.reset.incidentsSound ∧ State.reset.lockListsSound ∧ State.reset.queuesSound ∧
    State.reset.allowanceSound ∧ State.reset.searchSound

/-- RESET in any state: the image loaded where its area checks good, the empty model and MODEL_LOST where it does not, the same
for the lock list and LOCKS_LOST, every block at its reset values, and no store write left. Each line's poll ring holds the
addresses of the loaded valves and points of that line, and its first round has begun where the ring is not empty. A notice is
pending on each link where a flag is raised, and nothing is in transmission until what falls due follows. What waits outside the
part is kept (log 4), the timebase stands at 0 (log 10), an area whose write was cut short checks bad (log 11), and a lock area
whose check is open checks as `Config.lockAreaChecksGood` says (log 1). The two priorities of an empty slot are 0 (log 37). -/
def Obligations.ResetLoadsTheStoreAndClearsTheBlocks : Prop :=
  ∀ s : State,
    let image := s.store.cut.loadImage
    let locks := s.store.cut.loadLocks s.openChecks
    let flags : DevWord :=
      (if image = none then DevFlag.modelLost.bit else 0) ||| (if locks = none then DevFlag.locksLost.bit else 0)
    ∃ u : State, exec .reset s = .next u.finish ∧
      u.pending = s.pending ∧ u.now = 0 ∧ u.image = image.getD Image.empty ∧ u.locks = locks.getD [] ∧
      u.store.image = s.store.cut.image ∧ u.store.active = none ∧ u.store.due = [] ∧
      (∀ c, s.store.cut.locks = .good c → u.openChecks = s.openChecks ∧ u.store.locks = .good c ∧ locks = some c) ∧
      (s.store.cut.locks = .bad → u.openChecks = s.openChecks ∧ u.store.locks = .bad ∧ locks = none) ∧
      (∀ c, s.store.cut.locks = .doubtful c →
        u.openChecks = s.openChecks + 1 ∧
        if Config.lockAreaChecksGood s.openChecks = true then u.store.locks = .good c ∧ locks = some c
        else u.store.locks = .bad ∧ locks = none) ∧
      (∀ v x, u.valve? v = some x → x.vol = ValveVol.fresh) ∧
      (∀ k p, u.point? k = some p → p = Point.start p.asg) ∧
      (∀ i, u.inc i = Incident.empty) ∧ u.planner = { queue := [], comp := none } ∧ u.tagCounter = 0 ∧
      u.releaseCount = 0 ∧ u.orphanCount = 0 ∧ u.grantMode = .fixed ∧
      (∀ z, u.zone z = Zone.fresh (u.image.zones.get z)) ∧
      (∀ (l : Fin 4) (a : Nat), (u.line l).node? a =
        if (∃ e ∈ u.image.valves, e.2.line = l ∧ e.2.addr = a) ∨ ∃ e ∈ u.image.points, e.2.line = l ∧ e.2.addr = a then
          some { misses := 0, lastValid := none }
        else none) ∧
      (∀ l, tabRising (u.line l).nodes = true ∧
        u.line l =
          { state := .running
            nodes := (u.line l).nodes
            cursor := tabFirst (u.line l).nodes
            round := if (u.line l).nodes = [] then 0 else 1
            queue := []
            rotation := 3
            txn := none
            furtherDue := false
            startRounds := if (u.line l).nodes = [] then 2 else 0
            slots := Vector.replicate 4 none
            arbiter := 15
            kept := [] }) ∧
      ((∀ l, (u.line l).nodes = []) → u.device = .running) ∧ ((∃ l, (u.line l).nodes ≠ []) → u.device = .starting) ∧
      ∀ l, u.port l =
        { rx := .discarding
          errors := 0
          slot := none
          replies := []
          sending := none
          noticePending := decide (flags ≠ 0)
          incMask := allInc
          devMask := allDev
          copies := Vector.replicate 16 { tag := none, pending := 0 }
          device := flags }

/-! ## Admission -/

/-- The tests of R185, in order, for every request frame of at most 240 body bytes that an IDLE receiver takes: full reply
queue, occupied slot, unknown kind, wrong length, no right. What each refuses changes nothing else. That a reply in transmission
no longer counts among the four is the model's choice (log 6). -/
def Obligations.AdmissionTestsAreMadeInOrder : Prop :=
  ∀ (i : Instr) (h : Hdr) (s : State), i.hdr? = some h → (∀ k, i = .unknownRequest h k → k = 0 ∨ 40 < k) →
    (s.port h.link).rx = .idle → h.len ≤ 240 →
    if 4 ≤ (s.port h.link).replies.length then
      exec i s = .next (s.modPort h.link fun p => { p with errors := min 65535 (p.errors + 1) })
    else if (s.port h.link).slot.isSome then exec i s = .next (s.answers i h .busy [])
    else if i.code?.getD 0 = 0 ∨ 40 < i.code?.getD 0 then exec i s = .next (s.answers i h .unknownRequest [])
    else if h.len ≠ i.bodyLen then exec i s = .next (s.answers i h .badLength [])
    else if permitted i h.link = false then exec i s = .next (s.answers i h .notPermitted [])
    else True

/-- During start-up every request but the eleven reads is answered STARTING, once admitted, and changes nothing else. The end of
a poll visit in STARTING, by a valid reply or a miss: while a higher address is on the ring, the device stays STARTING and the
line in its round; after the highest address a start-up round counts, the round number rises, and the device is RUNNING where
that was the line's second and every other line has had two. The start-up rounds of the other lines stay. That the round number has
risen in the very state in which the visit to the highest address ends is read by inference (log 8). -/
def Obligations.OnlyReadsAreTakenDuringStartUp : Prop :=
  (∀ (i : Instr) (h : Hdr) (s : State), i.hdr? = some h → (∀ n, i.code? = some n → 12 ≤ n ∧ n ≤ 40) → s.ready i h →
    (∀ k, i ≠ .unknownRequest h k) → permitted i h.link = true → s.device = .starting →
    exec i s = .next (s.answers i h .starting [])) ∧
  ∀ (s : State) (l : Fin 4) (t : Txn) (i : Instr), s.device = .starting → (s.line l).txn = some t → t.visit = true →
    t.gone = false →
    (i = .miss l ∨
      (∃ v x p b, i = .report l t.addr p b ∧ t.kind = .query ∧ s.valveAt l t.addr = some (v, x) ∧ p ≤ x.st.turns ∧
        (b.getLsbD 0 = false ∨ b.getLsbD 1 = false)) ∨
      ∃ p q, i = .sampleReply l t.addr p q ∧ t.kind = .sample ∧ p ≤ 2500 ∧ q ≤ 1) →
    ∃ u : State, exec i s = .next u.finish ∧ u.finish.device = u.device ∧
      (∀ k, k ≠ l → (u.line k).poll = (s.line k).poll ∧ (u.line k).cursor = (s.line k).cursor) ∧
      ((∃ e ∈ (s.line l).nodes, t.addr < e.1) →
        u.device = .starting ∧ (u.line l).startRounds = (s.line l).startRounds ∧ (u.line l).round = (s.line l).round) ∧
      ((∀ e ∈ (s.line l).nodes, e.1 ≤ t.addr) →
        (u.line l).startRounds = min 2 ((s.line l).startRounds + 1) ∧ (u.line l).round = (s.line l).round + 1 ∧
          u.device =
            if 1 ≤ (s.line l).startRounds ∧ ∀ k, k ≠ l → 2 ≤ (s.line k).startRounds then .running else .starting)

/-- The eight requests that name an incident are refused, in RUNNING, BAD_INDEX for a slot above 15 and STALE_TAG for a FREE
slot or another tenancy's tag, before any test of their own, and change nothing else. -/
def Obligations.NamedIncidentIsTestedFirst : Prop :=
  ∀ (i : Instr) (h : Hdr) (s : State) (slot tag : Nat), i.hdr? = some h → namesIncident i = some (slot, tag) →
    s.readyRunning i h →
    (15 < slot → exec i s = .next (s.answers i h .badIndex [])) ∧
    ∀ k : Fin 16, k.val = slot → s.tenancy k tag = false → exec i s = .next (s.answers i h .staleTag [])

/-! ## Reads -/

/-- The reads of the model tables: an admitted read answers the record's items, or the defined flag alone, and changes nothing
but its link's transmitter. The items and their order are those of R191, R21, R62, R178 and R72; how R184 leaves an absent item,
a code or a flag to be sent is the model's choice (log 12), and the step number of a mover is log 28's. -/
def Obligations.ModelReadsAnswerTheRecords : Prop :=
  ∀ (h : Hdr) (s : State),
    (s.ready (.readDevice h) h →
      exec (.readDevice h) s = .next (s.answers (.readDevice h) h .done
        ([u8 s.device.code, u32 s.revision.toNat, u8 (s.port h.link).device.toNat, u16 s.orphanCount, u8 s.slotsInUse,
          yesNo s.plannerBusy, yesNo s.store.busy] ++ s.grantMode.items ++ [u8 s.feeds.length] ++ s.feeds.map u16))) ∧
    (∀ n x, s.ready (.readSeg h n) h → n < 1024 → s.seg? n = some x →
      exec (.readSeg h n) s = .next (s.answers (.readSeg h n) h .done
        ([u8 1, u8 x.use.code, u8 x.zone.val, u16 x.length, u16 x.celerity, u16 x.rating, u16 x.diameter,
          u8 x.protection.code, u8 x.valves.length] ++ x.valves.map u16 ++ [yesNo (s.feeds.contains n)]))) ∧
    (∀ n, s.ready (.readSeg h n) h → n < 1024 → s.seg? n = none →
      exec (.readSeg h n) s = .next (s.answers (.readSeg h n) h .done [u8 0])) ∧
    (∀ v x, s.ready (.readValve h v) h → v < 768 → s.valve? v = some x →
      exec (.readValve h v) s = .next (s.answers (.readValve h v) h .done
        ([u8 1, u16 x.st.sideA, opt16 x.st.sideB, u8 x.st.line.val, u8 x.st.addr, u16 x.st.size, u16 x.st.turns,
          u8 x.st.maxSpeed, u8 x.st.minSpeed, u16 x.st.velocity, u8 x.st.normal.code, u8 x.st.mark.code,
          u8 (s.zoneOf v).val, u8 x.vol.motion.code, opt16 x.vol.reported, opt16 x.vol.accepted, u8 x.vol.agreement,
          u8 x.vol.status.code] ++
        (match s.mover v with
          | none => [u8 0, opt8 none, opt16 none, opt8 none, opt8 none, opt32 none, opt32 none, opt8 none]
          | some m =>
            match m.owner, m.figures with
            | .step i tag, _ =>
              [u8 1, u8 i.val, u16 tag, opt8 (if s.tenancy i tag = true then (s.inc i).stepNo v else m.stepNo), opt8 none,
                opt32 none, opt32 none, opt8 none]
            | .release _, some f =>
              [u8 2, opt8 none, opt16 none, opt8 none, u8 f.slow, u32 f.runEst, u32 f.slowEst, yesNo f.surgeRisk]
            | .release _, none => [u8 2, opt8 none, opt16 none, opt8 none, opt8 none, opt32 none, opt32 none, opt8 none]) ++
        u8 x.vol.waiting.length :: x.vol.waiting.flatMap (fun w =>
          match w with
          | .restore i tag =>
            [u8 1, u8 i.val, u16 tag, opt8 (if s.tenancy i tag = true then (s.inc i).stepNo v else none)]
          | .release _ => [u8 2, opt8 none, opt16 none, opt8 none]) ++
        u8 x.vol.holds.length :: x.vol.holds.flatMap (fun i => [u8 i.val, opt16 (s.inc i).tag]) ++
        [u8 ((((s.line x.st.line).node? x.st.addr).map (·.misses)).getD 0), u8 (s.dispositionOf v x).code] ++
        (match s.lockOf v with
          | some e => [u16 e.valve, u8 (linkCode e.link), u16 e.position]
          | none => [opt16 none, opt8 none, opt16 none])))) ∧
    (∀ v, s.ready (.readValve h v) h → v < 768 → s.valve? v = none →
      exec (.readValve h v) s = .next (s.answers (.readValve h v) h .done [u8 0])) ∧
    (∀ z : Fin 8, s.ready (.readZone h z.val) h →
      exec (.readZone h z.val) s = .next (s.answers (.readZone h z.val) h .done
        [u16 (s.zone z).record.nominal, u8 (s.zone z).record.drained, u16 (s.zone z).record.window,
          u8 (s.zone z).record.allowance, u8 (s.zone z).guard.code, opt8 (s.zone z).tripping, u8 (s.zone z).clearCount,
          u8 (s.zone z).holders.length, u8 (s.zone z).requests.length])) ∧
    (∀ k p, s.ready (.readPoint h k) h → k < 128 → s.point? k = some p →
      exec (.readPoint h k) s = .next (s.answers (.readPoint h k) h .done
        ([u8 1, u16 p.asg.seg, u8 p.asg.line.val, u8 p.asg.addr, u8 (s.segOf p.asg.seg).zone.val, u8 p.ring.length] ++
          p.ring.flatMap (fun x => [u16 x.pressure, u32 x.round.toNat]) ++
          [yesNo p.fresh, u8 p.bad, u32 (s.line p.asg.line).round.toNat, u8 (s.line p.asg.line).state.code,
            u16 (s.currentPressure p.asg.seg).1, u8 (if (s.currentPressure p.asg.seg).2 = true then 0 else 1)]))) ∧
    ∀ k, s.ready (.readPoint h k) h → k < 128 → s.point? k = none →
      exec (.readPoint h k) s = .next (s.answers (.readPoint h k) h .done [u8 0])

/-- The other reads answer their items and change nothing but their link's transmitter; READ_LINK also sets the error count it
returns to 0, and its own link's slot shows as held by it. The items and their order are those of R44, R125, R157, R94 to R96,
R193, R62, R202 and R192; table, part and position codes, absent items and the flags sent are the model's choice (log 12). That
READ_LINK's number of replies leaves out the one in transmission is the model's choice too (log 6). -/
def Obligations.ActivityReadsAnswerTheirItems : Prop :=
  (∀ (h : Hdr) (s : State),
    (∀ (l : Fin 4) (a : Nat), s.ready (.readLine h l.val a) h →
      let x := s.line l
      let missing := x.nodes.filter fun e => decide (a ≤ e.1) && decide (e.2.misses ≠ 0)
      exec (.readLine h l.val a) s = .next (s.answers (.readLine h l.val a) h .done
        ([u8 x.state.code, u32 x.round.toNat, u8 (x.nodes.filter fun e => decide (e.1 < 200)).length,
          u8 (x.nodes.filter fun e => decide (200 ≤ e.1)).length, u8 x.queue.length] ++
          x.queue.flatMap (fun e =>
            match e.cmd with
            | .move target speed _ _ => [u16 e.valve, u8 0, u16 target, u8 speed]
            | .stop => [u16 e.valve, u8 1, opt16 none, opt8 none]) ++
          [opt16 ((s.motionAt l 0).map (·.valve)), opt16 ((s.motionAt l 1).map (·.valve)),
            opt16 ((s.motionAt l 2).map (·.valve)), opt16 ((s.motionAt l 3).map (·.valve)), u8 x.rotation.val,
            u8 (missing.take 48).length] ++
          (missing.take 48).flatMap (fun e => [u8 e.1, u8 e.2.misses]) ++ [yesNo (decide (48 < missing.length))]))) ∧
    (∀ n, s.ready (.readPolicy h 0 n) h → n < 32 →
      exec (.readPolicy h 0 n) s = .next (s.answers (.readPolicy h 0 n) h .done
        (u8 (min 16 (32 - n)) :: ((allRules.drop n).take 16).flatMap fun k =>
          let r := s.rules.get k
          [u8 k.val, u8 r.stage.code, u8 r.test.val, u8 r.cmp.code, u16 r.low, u16 r.high, yesNo r.exclude, u8 r.cls.code,
            yesNo r.concurrence, u8 r.mode.code, u8 r.value]))) ∧
    (∀ n, s.ready (.readPolicy h 1 n) h → n < 16 →
      exec (.readPolicy h 1 n) s = .next (s.answers (.readPolicy h 1 n) h .done
        (u8 (min 6 (16 - n)) :: ((allSixteen.drop n).take 6).flatMap fun k =>
          let g := s.groups.get k
          [u8 k.val, yesNo g.enabled, u8 g.members.length] ++ g.members.map (fun m => u8 m.val) ++
            [u8 g.lead.val, u8 (match groupStage s.rules g.members with
              | some stage => stage.code
              | none => 3)]))) ∧
    (∀ k : Fin 16, s.ready (.readIncident h k.val) h →
      let x := s.inc k
      let count (st : StepState) := u8 (x.steps.filter fun y => decide (y.state = st)).length
      exec (.readIncident h k.val) s = .next (s.answers (.readIncident h k.val) h .done
        ([u8 x.state.code, opt16 x.tag, opt8 (x.link.map linkCode), opt16 x.burst, u8 x.reqPrio, u8 x.effPrio,
          yesNo x.concRequired, opt8 (x.concGiven.map linkCode), u8 x.excl.length] ++ x.excl.map u16 ++
          [opt8 x.current, opt8 x.staged, yesNo x.holdPending, opt8 (x.heldFrom.map HeldFrom.code), yesNo x.replanDue] ++
          (match x.watch with
            | .idle => [u8 0, opt32 none]
            | .running e => [u8 1, u32 (e - s.now)]
            | .ended => [u8 2, opt32 none]) ++ failureItems x.failure ++
          [u16 x.flags.toNat, count .waiting, count .moving, count .shadow, count .closed, count .skipped, count .failed,
            count .reopened, count .retained]))) ∧
    (∀ (k : Fin 16) (tag part n : Nat), s.ready (.readPlan h k.val tag part n) h → s.tenancy k tag = true →
      let x := s.inc k
      let done (items : List Item) := exec (.readPlan h k.val tag part n) s =
        .next (s.answers (.readPlan h k.val tag part n) h .done items)
      let position := match s.planner.queue.idxOf? k with
        | some ahead => [u8 0, u8 ahead]
        | none => if s.computing k = true then [u8 1, opt8 none] else [opt8 none, opt8 none]
      (∀ p, part = 0 → x.plan = some p → done
        ([u16 p.strandedCount, yesNo p.more, u8 p.protection.code, yesNo p.openEdge, yesNo p.strandsProtected,
          yesNo p.noFeeds, u8 p.edgeValves.length] ++ p.edgeValves.map u16 ++
          [u16 p.edgeCount, u16 p.rescans, opt8 (p.group.map (·.val)), yesNo p.concurrence, u8 p.cls.code, u8 p.prio,
            u8 p.kind.code, u8 p.zone.length, u8 p.steps.length, u8 p.stranded.length, opt8 x.current, opt8 x.staged] ++
          position ++ failureItems x.failure)) ∧
      (part = 0 → x.plan = none → done
        ([u16 0, u8 0, opt8 none, u8 0, u8 0, u8 0, u8 0, u16 0, u16 0, opt8 none, u8 0, opt8 none, opt8 none, opt8 none,
          u8 0, u8 0, u8 0, opt8 x.current, opt8 x.staged] ++ position ++ failureItems x.failure)) ∧
      (part = 1 → n = 0 ∨ n < x.zoneList.length → done (u8 x.zoneList.length :: x.zoneList.map u16)) ∧
      (part = 2 → n = 1 ∨ (1 ≤ n ∧ n ≤ x.steps.length) → done
        (u8 (min 8 (x.steps.length + 1 - n)) :: (List.range (min 8 (x.steps.length + 1 - n))).flatMap fun d =>
          match x.steps[n - 1 + d]? with
          | none => []
          | some st =>
            [u16 st.valve, u8 (n + d), u8 st.role.code, u8 st.state.code, u8 st.wave, u8 st.cls.code, u8 st.figures.slow,
              u32 st.figures.runEst, u32 st.figures.slowEst, yesNo st.figures.surgeRisk])) ∧
      (∀ l, part = 3 → (x.plan = none ∧ l = []) ∨ (∃ p, x.plan = some p ∧ l = p.stranded) → n = 0 ∨ n < l.length →
        done (u8 (min 64 (l.length - n)) :: ((l.drop n).take 64).map u16))) ∧
    (∀ n, s.ready (.readLocks h n) h → n ≤ 63 →
      exec (.readLocks h n) s = .next (s.answers (.readLocks h n) h .done
        (u8 (min 32 (s.locks.length - n)) :: ((s.locks.drop n).take 32).flatMap (fun e =>
          [u16 e.valve, u8 (linkCode e.link), u16 e.position, yesNo (s.valve? e.valve).isSome]) ++
          [u8 s.locks.length]))) ∧
    (s.ready (.readAttention h) h →
      exec (.readAttention h) s = .next (s.answers (.readAttention h) h .done
        ([u8 (s.port h.link).device.toNat, u8 (s.port h.link).summary.length] ++
          (s.port h.link).summary.flatMap (fun e => [u8 e.slot.val, opt16 e.tag, u16 e.flags.toNat]) ++
          [u16 (s.port h.link).incMask.toNat, u8 (s.port h.link).devMask.toNat, yesNo (s.port h.link).attn,
            yesNo (s.port h.link).noticePending])))) ∧
  (∀ (h : Hdr) (s : State),
    (∀ l : Link, s.readyRunning (.readLink h (linkCode l)) h →
      exec (.readLink h (linkCode l)) s =
        .next ((s.modPort l fun p => { p with errors := 0 }).answers (.readLink h (linkCode l)) h .done
          [u16 (s.port l).errors, yesNo (decide (l = h.link) || (s.port l).slot.isSome),
            opt8 (if l = h.link then some 12 else (s.port l).slot.map (·.code)), u8 (s.port l).replies.length,
            yesNo (s.port l).noticePending, u16 (s.port l).incMask.toNat, u8 (s.port l).devMask.toNat,
            yesNo (s.port l).attn])) ∧
    ∀ n, 2 < n → s.readyRunning (.readLink h n) h →
      exec (.readLink h n) s = .next (s.answers (.readLink h n) h .outOfRange []))

/-- Reads outside their tables are refused and change nothing else: BAD_INDEX, STALE_TAG for another tenancy's plan, and
OUT_OF_RANGE for an unknown table or part and for a position beyond its list of a plan. Which codes name a table or part and from
which number a list counts is the model's choice (log 12). A position above 63 of the lock list is OUT_OF_RANGE (log 14). -/
def Obligations.ReadsOutsideTheirTablesAreRefused : Prop :=
  ∀ (h : Hdr) (s : State),
    (∀ n, 1023 < n → s.ready (.readSeg h n) h → exec (.readSeg h n) s = .next (s.answers (.readSeg h n) h .badIndex [])) ∧
    (∀ v, 767 < v → s.ready (.readValve h v) h →
      exec (.readValve h v) s = .next (s.answers (.readValve h v) h .badIndex [])) ∧
    (∀ z, 7 < z → s.ready (.readZone h z) h → exec (.readZone h z) s = .next (s.answers (.readZone h z) h .badIndex [])) ∧
    (∀ k, 127 < k → s.ready (.readPoint h k) h →
      exec (.readPoint h k) s = .next (s.answers (.readPoint h k) h .badIndex [])) ∧
    (∀ l a, 3 < l → s.ready (.readLine h l a) h →
      exec (.readLine h l a) s = .next (s.answers (.readLine h l a) h .badIndex [])) ∧
    (∀ t n, (t = 0 ∧ 31 < n) ∨ (t = 1 ∧ 15 < n) → s.ready (.readPolicy h t n) h →
      exec (.readPolicy h t n) s = .next (s.answers (.readPolicy h t n) h .badIndex [])) ∧
    (∀ t n, 1 < t → s.ready (.readPolicy h t n) h →
      exec (.readPolicy h t n) s = .next (s.answers (.readPolicy h t n) h .outOfRange [])) ∧
    (∀ i, 15 < i → s.ready (.readIncident h i) h →
      exec (.readIncident h i) s = .next (s.answers (.readIncident h i) h .badIndex [])) ∧
    (∀ i t p n, 15 < i → s.ready (.readPlan h i t p n) h →
      exec (.readPlan h i t p n) s = .next (s.answers (.readPlan h i t p n) h .badIndex [])) ∧
    (∀ (k : Fin 16) (t p n : Nat), s.tenancy k t = false → s.ready (.readPlan h k.val t p n) h →
      exec (.readPlan h k.val t p n) s = .next (s.answers (.readPlan h k.val t p n) h .staleTag [])) ∧
    (∀ (k : Fin 16) (t p n : Nat), s.tenancy k t = true → 3 < p → s.ready (.readPlan h k.val t p n) h →
      exec (.readPlan h k.val t p n) s = .next (s.answers (.readPlan h k.val t p n) h .outOfRange [])) ∧
    (∀ (k : Fin 16) (t p n : Nat), s.tenancy k t = true →
      (p = 1 ∧ n ≠ 0 ∧ (s.inc k).zoneList.length ≤ n) ∨ (p = 2 ∧ (n = 0 ∨ (n ≠ 1 ∧ (s.inc k).steps.length < n))) ∨
        (p = 3 ∧ n ≠ 0 ∧ ∀ q, (s.inc k).plan = some q → q.stranded.length ≤ n) →
      s.ready (.readPlan h k.val t p n) h →
      exec (.readPlan h k.val t p n) s = .next (s.answers (.readPlan h k.val t p n) h .outOfRange [])) ∧
    ∀ n, 63 < n → s.ready (.readLocks h n) h →
      exec (.readLocks h n) s = .next (s.answers (.readLocks h n) h .outOfRange [])

/-! ## Model edits -/

/-- Tests 1 to 3 of R6 and tests 1 and 2 of R120 and R123, in order: an edit is refused BUSY while an image write is in
progress or waits, or the planner is busy, and a model edit INCIDENTS_ACTIVE while a slot is in use; nothing else changes. -/
def Obligations.EditsAreRefusedWhileBusyOrInUse : Prop :=
  ∀ (i : Instr) (h : Hdr) (s : State), i.hdr? = some h → s.readyRunning i h → isControl h.link = true →
    (isModelEdit i = true ∨ i.code? = some 20 ∨ i.code? = some 21) → (∀ k, i ≠ .unknownRequest h k) →
    (s.imageWriting = true ∨ s.plannerBusy = true → exec i s = .next (s.answers i h .busy [])) ∧
    (isModelEdit i = true → s.imageWriting = false → s.plannerBusy = false → s.anyInUse = true →
      exec i s = .next (s.answers i h .incidentsActive []))

/-- Tests 4 and 5 of the edits: an index outside its table is BAD_INDEX, GROUP_PUT's among them, a record that no fields in
range spell OUT_OF_RANGE; and tests 6 to 8 of VALVE_PUT, in order: BAD_INDEX, LIST_FULL, IN_USE. That a POINT_PUT with an
unknown assigned flag is OUT_OF_RANGE and a side above 1,023 BAD_INDEX is read by inference (log 14). -/
def Obligations.EditsAreRefusedByTheirOwnTests : Prop :=
  (∀ (h : Hdr) (s : State),
    (∀ n a b c d e f g, s.readyToEdit (.segPut h n a b c d e f g) h →
      (1023 < n → exec (.segPut h n a b c d e f g) s = .next (s.answers (.segPut h n a b c d e f g) h .badIndex [])) ∧
      (n ≤ 1023 → (∀ x : Seg, x.inRange → x.put h n ≠ .segPut h n a b c d e f g) →
        exec (.segPut h n a b c d e f g) s = .next (s.answers (.segPut h n a b c d e f g) h .outOfRange []))) ∧
    (∀ v a b c d e f g j k m o, s.readyToEdit (.valvePut h v a b c d e f g j k m o) h →
      (767 < v → exec (.valvePut h v a b c d e f g j k m o) s =
        .next (s.answers (.valvePut h v a b c d e f g j k m o) h .badIndex [])) ∧
      (v ≤ 767 →
        (∀ x : ValveStatic, x.inRange → x.sideB ≠ some x.sideA → x.put h v ≠ .valvePut h v a b c d e f g j k m o) →
        exec (.valvePut h v a b c d e f g j k m o) s =
          .next (s.answers (.valvePut h v a b c d e f g j k m o) h .outOfRange []))) ∧
    (∀ z a b c d, s.readyToEdit (.zonePut h z a b c d) h →
      (7 < z → exec (.zonePut h z a b c d) s = .next (s.answers (.zonePut h z a b c d) h .badIndex [])) ∧
      (z ≤ 7 → (∀ x : ZoneRec, x.inRange → x.put h z ≠ .zonePut h z a b c d) →
        exec (.zonePut h z a b c d) s = .next (s.answers (.zonePut h z a b c d) h .outOfRange []))) ∧
    (∀ k a b c d, s.readyToEdit (.pointPut h k a b c d) h →
      (127 < k → exec (.pointPut h k a b c d) s = .next (s.answers (.pointPut h k a b c d) h .badIndex [])) ∧
      (k ≤ 127 → (1 < a ∨ (a = 1 ∧ (3 < c ∨ d < 200 ∨ 231 < d))) →
        exec (.pointPut h k a b c d) s = .next (s.answers (.pointPut h k a b c d) h .outOfRange []))) ∧
    ∀ k a b c d e f g j m o, s.readyForPolicy (.rulePut h k a b c d e f g j m o) h →
      (31 < k → exec (.rulePut h k a b c d e f g j m o) s =
        .next (s.answers (.rulePut h k a b c d e f g j m o) h .badIndex [])) ∧
      (k ≤ 31 → (∀ x : Rule, x.inRange → x.put h k ≠ .rulePut h k a b c d e f g j m o) →
        exec (.rulePut h k a b c d e f g j m o) s =
          .next (s.answers (.rulePut h k a b c d e f g j m o) h .outOfRange []))) ∧
  (∀ (h : Hdr) (s : State) (k en lead : Nat) (ms : List Nat), s.readyForPolicy (.groupPut h k en ms lead) h → 15 < k →
    exec (.groupPut h k en ms lead) s = .next (s.answers (.groupPut h k en ms lead) h .badIndex [])) ∧
  (∀ (h : Hdr) (s : State) (v : Nat) (st : ValveStatic), s.readyToEdit (st.put h v) h → v ≤ 767 → st.inRange →
    st.sideB ≠ some st.sideA → st.sideB ≠ some 65535 →
    ((∃ n, st.hasSide n ∧ s.seg? n = none) → exec (st.put h v) s = .next (s.answers (st.put h v) h .badIndex [])) ∧
    ((∀ n, st.hasSide n → s.seg? n ≠ none) →
      ((∃ n x, st.hasSide n ∧ s.seg? n = some x ∧ 12 ≤ (x.valves.filter (· ≠ v)).length) →
        exec (st.put h v) s = .next (s.answers (st.put h v) h .listFull [])) ∧
      ((∀ n x, st.hasSide n → s.seg? n = some x → (x.valves.filter (· ≠ v)).length < 12) →
        s.addrTaken v st = true ∨ s.hasMover v = true ∨
          (s.isLocked v = true ∧ ∃ x, s.valve? v = some x ∧ (x.st.line ≠ st.line ∨ x.st.addr ≠ st.addr)) →
        exec (st.put h v) s = .next (s.answers (st.put h v) h .inUse []))))

/-- SEG_PUT: an undefined record becomes defined with an empty valve list, a defined one keeps its list; a zone change of a
segment whose valve moves or whose point tripped a guard is IN_USE. Nothing else changes but the revision.
SEG_DROP: BAD_INDEX for an index outside the table or an undefined record, IN_USE for one with valves, a point or a place
on the feed list; else the record is undefined and nothing else changes but the revision. -/
def Obligations.SegPutAndSegDropWriteOneSegment : Prop :=
  (∀ (h : Hdr) (s : State) (n : Nat) (x : Seg), s.readyToEdit (x.put h n) h → n ≤ 1023 → x.inRange →
    (s.seg? n = none →
      exec (x.put h n) s = .next
        (({ s with segs := tabPut s.segs n { x with valves := [] } } : State).counted.answers (x.put h n) h .done [])) ∧
    ∀ old, s.seg? n = some old →
      if x.zone ≠ old.zone ∧ (s.movesOn n = true ∨ s.tripsOn n = true) then
        exec (x.put h n) s = .next (s.answers (x.put h n) h .inUse [])
      else
        exec (x.put h n) s = .next
          (({ s with segs := tabPut s.segs n { x with valves := old.valves } } : State).counted.answers (x.put h n) h .done
            [])) ∧
  (∀ (h : Hdr) (s : State) (n : Nat), s.readyToEdit (.segDrop h n) h →
    (1023 < n → exec (.segDrop h n) s = .next (s.answers (.segDrop h n) h .badIndex [])) ∧
    (n ≤ 1023 →
      match s.seg? n with
      | none => exec (.segDrop h n) s = .next (s.answers (.segDrop h n) h .badIndex [])
      | some x =>
        (x.valves ≠ [] ∨ (∃ e ∈ s.points, e.2.asg.seg = n) ∨ n ∈ s.feeds →
          exec (.segDrop h n) s = .next (s.answers (.segDrop h n) h .inUse [])) ∧
        (x.valves = [] → (∀ e ∈ s.points, e.2.asg.seg ≠ n) → n ∉ s.feeds →
          exec (.segDrop h n) s = .next
            (({ s with segs := tabDrop s.segs n } : State).counted.answers (.segDrop h n) h .done []))))

/-- VALVE_PUT in a sound model: the record, the lists of the old and new sides, the volatile record afresh or kept (what a release
completed before says of the valve ends with the normal position in turns, log 41), the poll rings; every other valve keeps all but a FRESH status that lapses with a round, and the rest of the model is unchanged. -/
def Obligations.ValvePutWritesTheRecordItsSidesAndTheRings : Prop :=
  ∀ (h : Hdr) (s : State) (v : Nat) (st : ValveStatic), s.modelSound → s.readyToEdit (st.put h v) h → v ≤ 767 →
    st.inRange → st.sideB ≠ some st.sideA →
    (∀ n, st.hasSide n → ∃ x, s.seg? n = some x ∧ (x.valves.filter (· ≠ v)).length < 12) →
    s.addrTaken v st = false → s.hasMover v = false →
    (∀ x, s.valve? v = some x → s.isLocked v = true → x.st.line = st.line ∧ x.st.addr = st.addr) →
    ∃ u : State, exec (st.put h v) s = .next u.finish ∧
      (∃ x, u.valve? v = some x ∧ x.st = st ∧
        (∀ y, s.valve? v = some y → y.st.line = st.line → y.st.addr = st.addr →
          x.vol = { y.vol with
            released := y.vol.released && decide (y.st.normal = st.normal ∧ (st.normal = .opened → y.st.turns = st.turns))
            waiting := if y.st.normal = st.normal then y.vol.waiting else y.vol.waiting.filter (!·.isRelease) }) ∧
        (s.valve? v = none → x.vol = ValveVol.fresh) ∧
        ∀ y, s.valve? v = some y → (y.st.line ≠ st.line ∨ y.st.addr ≠ st.addr) → x.vol = ValveVol.fresh) ∧
      (∀ w x, w ≠ v → s.valve? w = some x →
        ∃ y, u.valve? w = some y ∧ y.st = x.st ∧ (y.vol = x.vol ∨ y.vol = x.vol.lapse)) ∧
      (∀ w, w ≠ v → s.valve? w = none → u.valve? w = none) ∧ u.segs.map (·.1) = s.segs.map (·.1) ∧
      (∀ n x, s.seg? n = some x → st.hasSide n →
        u.seg? n = some { x with valves := x.valves.filter (· ≠ v) ++ [v] }) ∧
      (∀ n x, s.seg? n = some x → ¬ st.hasSide n → u.seg? n = some { x with valves := x.valves.filter (· ≠ v) }) ∧
      (∀ l : Fin 4, (u.line l).nodes =
        match s.valve? v with
        | none =>
          if l = st.line then tabPut (s.line l).nodes st.addr { misses := 0, lastValid := none } else (s.line l).nodes
        | some x =>
          if x.st.line = st.line ∧ x.st.addr = st.addr then (s.line l).nodes
          else
            let left := if l = x.st.line then tabDrop (s.line l).nodes x.st.addr else (s.line l).nodes
            if l = st.line then tabPut left st.addr { misses := 0, lastValid := none } else left) ∧
      { u.image with segs := s.segs, valves := s.image.valves } = { s.image with revision := s.revision + 1 } ∧
      u.incidents = s.incidents ∧ u.planner = s.planner ∧ u.zones = s.zones ∧
      u.finish.kept = { s.kept.answered h.link (replyTo (st.put h v) h .done []) with
        image := u.image, positions := u.positions, polls := u.kept.polls }

/-- VALVE_DROP in a sound model: the record, its places in the lists of its sides, its node and its queued commands go; every
other record keeps all but a FRESH status that lapses with a round. -/
def Obligations.ValveDropTakesTheValveOutOfTheModel : Prop :=
  ∀ (h : Hdr) (s : State) (v : Nat), s.modelSound → s.readyToEdit (.valveDrop h v) h →
    (767 < v ∨ s.valve? v = none → exec (.valveDrop h v) s = .next (s.answers (.valveDrop h v) h .badIndex [])) ∧
    ∀ x, v ≤ 767 → s.valve? v = some x →
      if s.hasMover v = true ∨ s.isLocked v = true then
        exec (.valveDrop h v) s = .next (s.answers (.valveDrop h v) h .inUse [])
      else
        ∃ u : State, exec (.valveDrop h v) s = .next u.finish ∧ u.valve? v = none ∧
          (∀ w y, w ≠ v → s.valve? w = some y →
            ∃ z, u.valve? w = some z ∧ z.st = y.st ∧ (z.vol = y.vol ∨ z.vol = y.vol.lapse)) ∧
          (∀ n y, s.seg? n = some y → u.seg? n = some { y with valves := y.valves.filter (· ≠ v) }) ∧
          (∀ l : Fin 4, (u.line l).nodes = if l = x.st.line then tabDrop (s.line l).nodes x.st.addr else (s.line l).nodes) ∧
          (∀ l : Fin 4, ∀ e ∈ (u.line l).queue, e ∈ (s.line l).queue ∧ (l = x.st.line → e.valve ≠ v)) ∧
          { u.image with segs := s.segs, valves := s.image.valves } = { s.image with revision := s.revision + 1 } ∧
          u.incidents = s.incidents ∧ u.planner = s.planner ∧ u.zones = s.zones ∧
          u.finish.kept = { s.kept.answered h.link (replyTo (.valveDrop h v) h .done []) with
            image := u.image, positions := u.positions, polls := u.kept.polls }

/-- ZONE_PUT replaces the zone's record and nothing else but the revision; an allowance below the valves in a slow phase is
IN_USE. What a raised allowance grants follows.
FEED_SET writes the whole list; more than sixteen entries or a repeated one is OUT_OF_RANGE, an index above 1,023 or undefined is
BAD_INDEX. -/
def Obligations.ZonePutAndFeedSetReplaceTheirRecords : Prop :=
  (∀ (h : Hdr) (s : State) (z : Fin 8) (r : ZoneRec), s.readyToEdit (r.put h z.val) h → r.inRange →
    if r.allowance < s.slowCount z then exec (r.put h z.val) s = .next (s.answers (r.put h z.val) h .inUse [])
    else exec (r.put h z.val) s = .next
      ((s.modZone z fun y => { y with record := r }).counted.answers (r.put h z.val) h .done []).finish) ∧
  (∀ (h : Hdr) (s : State) (l : List Nat), s.readyToEdit (.feedSet h l) h →
    if 16 < l.length ∨ ¬ l.Nodup then exec (.feedSet h l) s = .next (s.answers (.feedSet h l) h .outOfRange [])
    else if ∃ n ∈ l, 1023 < n ∨ s.seg? n = none then exec (.feedSet h l) s = .next (s.answers (.feedSet h l) h .badIndex [])
    else exec (.feedSet h l) s = .next (({ s with feeds := l } : State).counted.answers (.feedSet h l) h .done []))

/-- POINT_PUT with the assigned flag set, in a sound model: a new or changed assignment starts the point afresh and moves its
node; the same assignment keeps it. Every other point keeps its assignment, ring and BAD count.
POINT_PUT with the assigned flag clear, in a sound model: an assigned point becomes unassigned and its node leaves; an
unassigned one changes nothing but the revision; the tripping point of a GUARDED zone is IN_USE. -/
def Obligations.PointPutAssignsOrUnassignsThePoint : Prop :=
  (∀ (h : Hdr) (s : State) (k : Nat) (a : PointAssign), s.modelSound → s.readyToEdit (a.put h k) h → k ≤ 127 →
    200 ≤ a.addr → a.addr ≤ 231 →
    if s.seg? a.seg = none then exec (a.put h k) s = .next (s.answers (a.put h k) h .badIndex [])
    else if s.pointTaken k a = true ∨ (s.isTripping k = true ∧ ∀ p, s.point? k = some p → p.asg ≠ a) then
      exec (a.put h k) s = .next (s.answers (a.put h k) h .inUse [])
    else
      ∃ u : State, exec (a.put h k) s = .next u.finish ∧
        (∀ p, s.point? k = some p → p.asg = a → u = s.counted.answers (a.put h k) h .done []) ∧
        ((∀ p, s.point? k = some p → p.asg ≠ a) → u.point? k = some (Point.start a)) ∧
        (∀ j p, j ≠ k → s.point? j = some p →
          ∃ q, u.point? j = some q ∧ q.asg = p.asg ∧ q.ring = p.ring ∧ q.bad = p.bad ∧ (q.fresh = true → p.fresh = true)) ∧
        (∀ l : Fin 4, (u.line l).nodes =
          match s.point? k with
          | none =>
            if l = a.line then tabPut (s.line l).nodes a.addr { misses := 0, lastValid := none } else (s.line l).nodes
          | some p =>
            if p.asg.line = a.line ∧ p.asg.addr = a.addr then (s.line l).nodes
            else
              let left := if l = p.asg.line then tabDrop (s.line l).nodes p.asg.addr else (s.line l).nodes
              if l = a.line then tabPut left a.addr { misses := 0, lastValid := none } else left) ∧
        { u.image with points := s.image.points } = { s.image with revision := s.revision + 1 } ∧
        u.incidents = s.incidents ∧ u.planner = s.planner ∧ u.zones = s.zones ∧
        u.finish.kept = { s.kept.answered h.link (replyTo (a.put h k) h .done []) with
          image := u.image, samples := u.samples, polls := u.kept.polls }) ∧
  (∀ (h : Hdr) (s : State) (k seg line addr : Nat), s.modelSound → s.readyToEdit (.pointPut h k 0 seg line addr) h →
    k ≤ 127 →
    (s.point? k = none → exec (.pointPut h k 0 seg line addr) s =
      .next (s.counted.answers (.pointPut h k 0 seg line addr) h .done []).finish) ∧
    ∀ p, s.point? k = some p →
      if s.isTripping k = true then
        exec (.pointPut h k 0 seg line addr) s = .next (s.answers (.pointPut h k 0 seg line addr) h .inUse [])
      else
        ∃ u : State, exec (.pointPut h k 0 seg line addr) s = .next u.finish ∧ u.point? k = none ∧
          (∀ j q, j ≠ k → s.point? j = some q →
            ∃ r, u.point? j = some r ∧ r.asg = q.asg ∧ r.ring = q.ring ∧ r.bad = q.bad ∧
              (r.fresh = true → q.fresh = true)) ∧
          (∀ l : Fin 4, (u.line l).nodes = if l = p.asg.line then tabDrop (s.line l).nodes p.asg.addr else (s.line l).nodes) ∧
          { u.image with points := s.image.points } = { s.image with revision := s.revision + 1 } ∧
          u.incidents = s.incidents ∧ u.planner = s.planner ∧ u.zones = s.zones ∧
          u.finish.kept = { s.kept.answered h.link (replyTo (.pointPut h k 0 seg line addr) h .done []) with
            image := u.image, samples := u.samples, polls := u.kept.polls })

/-! ## Policy edits -/

/-- RULE_PUT replaces one rule and leaves the revision and everything else; MIXED_STAGE where an enabled group with other
members would be mixed.
GROUP_PUT replaces one group's flag, member set and lead and leaves everything else. An unknown flag, member or lead or an
empty set is OUT_OF_RANGE, a lead outside the set BAD_INDEX, an enabled group of mixed stages MIXED_STAGE. That an unknown member is
OUT_OF_RANGE is read by inference (log 14). -/
def Obligations.RulePutAndGroupPutReplaceOneEntry : Prop :=
  (∀ (h : Hdr) (s : State) (k : Fin 32) (r : Rule), s.readyForPolicy (r.put h k.val) h → r.inRange →
    if ∃ g : Fin 16, (s.groups.get g).enabled = true ∧ k ∈ (s.groups.get g).members ∧
        ∃ m ∈ (s.groups.get g).members, m ≠ k ∧ (s.rules.get m).stage ≠ r.stage then
      exec (r.put h k.val) s = .next (s.answers (r.put h k.val) h .mixedStage [])
    else exec (r.put h k.val) s =
      .next (({ s with rules := s.rules.set k r } : State).answers (r.put h k.val) h .done [])) ∧
  (∀ (h : Hdr) (s : State) (k : Fin 16) (en lead : Nat) (ms : List Nat),
    s.readyForPolicy (.groupPut h k.val en ms lead) h →
    if 1 < en ∨ ms = [] ∨ (∃ m ∈ ms, 31 < m) ∨ 31 < lead then
      exec (.groupPut h k.val en ms lead) s = .next (s.answers (.groupPut h k.val en ms lead) h .outOfRange [])
    else if lead ∉ ms then
      exec (.groupPut h k.val en ms lead) s = .next (s.answers (.groupPut h k.val en ms lead) h .badIndex [])
    else if en = 1 ∧ ∃ a b : Fin 32, a.val ∈ ms ∧ b.val ∈ ms ∧ (s.rules.get a).stage ≠ (s.rules.get b).stage then
      exec (.groupPut h k.val en ms lead) s = .next (s.answers (.groupPut h k.val en ms lead) h .mixedStage [])
    else
      ∃ g : Group, exec (.groupPut h k.val en ms lead) s =
          .next (({ s with groups := s.groups.set k g } : State).answers (.groupPut h k.val en ms lead) h .done []) ∧
        g.enabled = decide (en = 1) ∧ g.lead.val = lead ∧ g.members.Pairwise (· < ·) ∧
        ∀ m : Fin 32, m ∈ g.members ↔ m.val ∈ ms)

/-! ## Service requests -/

/-- GRANT_MODE replaces the mode, with the named tenancy for PREFERRED; an unknown mode is OUT_OF_RANGE, a slot above 15
BAD_INDEX, a FREE slot or another tag STALE_TAG. What the arbiters then grant follows. -/
def Obligations.GrantModeReplacesTheMode : Prop :=
  ∀ (h : Hdr) (s : State) (m slot tag : Nat), s.readyRunning (.grantMode h m slot tag) h → isControl h.link = true →
    (m = 0 → exec (.grantMode h m slot tag) s =
      .next (({ s with grantMode := .fixed } : State).answers (.grantMode h m slot tag) h .done []).finish) ∧
    (m = 1 → exec (.grantMode h m slot tag) s =
      .next (({ s with grantMode := .rotating } : State).answers (.grantMode h m slot tag) h .done []).finish) ∧
    (∀ k : Fin 16, m = 2 → k.val = slot → s.tenancy k tag = true → exec (.grantMode h m slot tag) s =
      .next (({ s with grantMode := .preferred k tag } : State).answers (.grantMode h m slot tag) h .done []).finish) ∧
    (∀ k : Fin 16, m = 2 → k.val = slot → s.tenancy k tag = false → exec (.grantMode h m slot tag) s =
      .next (s.answers (.grantMode h m slot tag) h .staleTag [])) ∧
    (m = 2 → 15 < slot → exec (.grantMode h m slot tag) s =
      .next (s.answers (.grantMode h m slot tag) h .badIndex [])) ∧
    (2 < m → exec (.grantMode h m slot tag) s = .next (s.answers (.grantMode h m slot tag) h .outOfRange []))

/-- LINE_STOP makes a RUNNING line STOPPING and raises LINE_CHANGE; on a STOPPING or STOPPED line it changes nothing; a line
above 3 is BAD_INDEX. What falls due of it follows.
LINE_START makes a STOPPING or STOPPED line RUNNING and raises LINE_CHANGE. Of a STOPPED line it breaks the chains of the
line's valves, keeping their positions, and begins a round where the ring is not empty.
What falls due of a line state: every closing step then offered on a line that is not RUNNING is FAILED with cause LINE_STOPPED, a
replan trigger; and a STOPPING line without a held slot becomes STOPPED: its transaction is abandoned, its queue emptied, its
valves' chains broken and FRESH ones STALE, its points not fresh, and LINE_CHANGE is raised, while round, cursor, misses and
fault states stay; that a command kept for a full queue goes with the queue is the model's choice (log 45). While either is due,
something is. -/
def Obligations.LineStopAndLineStartSetTheLineState : Prop :=
  (∀ (h : Hdr) (s : State) (n : Nat), s.readyRunning (.lineStop h n) h → isControl h.link = true →
    (3 < n → exec (.lineStop h n) s = .next (s.answers (.lineStop h n) h .badIndex [])) ∧
    ∀ l : Fin 4, l.val = n →
      if (s.line l).state = .running then
        exec (.lineStop h n) s = .next
          (((s.modLine l fun y => { y with state := .stopping }).raiseDev .lineChange).answers (.lineStop h n) h .done
            []).finish
      else exec (.lineStop h n) s = .next (s.answers (.lineStop h n) h .done []).finish) ∧
  (∀ (h : Hdr) (s : State) (n : Nat), s.readyRunning (.lineStart h n) h → isControl h.link = true →
    (3 < n → exec (.lineStart h n) s = .next (s.answers (.lineStart h n) h .badIndex [])) ∧
    ∀ l : Fin 4, l.val = n →
      ((s.line l).state = .running → exec (.lineStart h n) s = .next (s.answers (.lineStart h n) h .done []).finish) ∧
      ((s.line l).state = .stopping → exec (.lineStart h n) s = .next
        (((s.modLine l fun y => { y with state := .running }).raiseDev .lineChange).answers (.lineStart h n) h .done
          []).finish) ∧
      ((s.line l).state = .stopped →
        ∃ u : State, exec (.lineStart h n) s = .next u.finish ∧ (u.line l).state = .running ∧
          (u.line l).round = (if (s.line l).nodes.isEmpty then (s.line l).round else (s.line l).round + 1) ∧
          (u.line l).cursor = tabFirst (s.line l).nodes ∧ (u.line l).nodes = (s.line l).nodes ∧
          (u.line l).queue = (s.line l).queue ∧ (u.line l).slots = (s.line l).slots ∧
          (∀ k, k ≠ l → u.line k = s.line k) ∧
          (∀ v x, s.valve? v = some x →
            ∃ y, u.valve? v = some y ∧ y.st = x.st ∧
              if x.st.line = l then y.vol = x.vol.breakChain ∨ y.vol = x.vol.breakChain.lapse else y.vol = x.vol) ∧
          (∀ k, (u.port k).device =
            if (s.port k).devMask &&& DevFlag.lineChange.bit = 0 then (s.port k).device
            else (s.port k).device ||| DevFlag.lineChange.bit) ∧
          u.incidents = s.incidents ∧ u.planner = s.planner ∧ u.zones = s.zones ∧
          u.finish.kept = { s.kept.answered h.link (replyTo (.lineStart h n) h .done []) with polls := u.kept.polls })) ∧
  (∀ s t : State, s.lineRule? = some t →
    t.lines = s.lines ∧ t.valves = s.valves ∧ t.zones = s.zones ∧ t.kept = s.kept ∧
      ∀ (i : Fin 16) (st : Step) (x : Valve), (s.inc i).tag ≠ none → (s.inc i).stepFor st.valve = some st →
        (s.inc i).closingOffer st = true → s.valve? st.valve = some x → (s.line x.st.line).state ≠ .running →
        (∃ y, (t.inc i).stepFor st.valve = some y ∧ y.state = .failed ∧ y.cause = some .lineStopped) ∧
          ((t.inc i).state = .replanning ∨ (t.inc i).state = .planFailed) ∧
          (t.inc i).flags &&& IncFlag.stepFailed.bit ≠ 0) ∧
  (∀ s t : State, s.stopped? = some t →
    ∃ l : Fin 4, (s.line l).state = .stopping ∧ (∀ j, s.motionAt l j = none) ∧
      t.line l = { s.line l with state := .stopped, txn := none, furtherDue := false, queue := [], kept := [] } ∧
      (∀ k, k ≠ l → t.line k = s.line k) ∧
      (∀ v x, s.valve? v = some x →
        t.valve? v = some
          (if x.st.line = l then
            { x with
              vol := { x.vol with
                lastReport := none
                agreement := 0
                closedRun := 0
                openRun := 0
                targetRun := 0
                target := none
                awaitRest := false
                status := if x.vol.status = .fresh then .stale else x.vol.status } }
          else x)) ∧
      (∀ k p, s.point? k = some p → t.point? k = some (if p.asg.line = l then { p with fresh := false } else p)) ∧
      (∀ k, (t.port k).device =
        if (s.port k).devMask &&& DevFlag.lineChange.bit = 0 then (s.port k).device
        else (s.port k).device ||| DevFlag.lineChange.bit) ∧
      t.incidents = s.incidents ∧ t.planner = s.planner ∧ t.zones = s.zones ∧ t.kept = s.kept) ∧
  ∀ s : State, s.due? = none →
    (∀ l, ¬ ((s.line l).state = .stopping ∧ ∀ j, s.motionAt l j = none)) ∧
      ∀ (i : Fin 16) (st : Step) (x : Valve), st ∈ (s.inc i).steps → (s.inc i).closingOffer st = true →
        s.valve? st.valve = some x → (s.line x.st.line).state = .running

/-- MARK writes the service mark of every valve of its list and no other, and takes a STUCK valve marked IN_SERVICE to AT_REST.
It is no edit: the revision stays. INOPERABLE on a valve whose step an incident in CLOSING still needs excludes it and starts a
replan. MARK's refusals: a count outside 1 to 16 or an unknown mark is OUT_OF_RANGE; an undefined valve is BAD_INDEX. That
OUT_OF_RANGE is answered before BAD_INDEX is the model's choice (log 38), and that the count is that of the list as carried,
repeats included, is log 43. -/
def Obligations.MarkWritesTheServiceMarks : Prop :=
  (∀ (h : Hdr) (s : State) (vs : List Nat) (m : ServiceMark), s.readyRunning (.mark h vs m.code) h → 1 ≤ vs.length →
    vs.length ≤ 16 → (∀ v ∈ vs, s.valve? v ≠ none) →
    ∃ u : State, exec (.mark h vs m.code) s = .next u.finish ∧
      (∀ v ∈ vs, ∀ x, s.valve? v = some x →
        u.valve? v = some
          { st := { x.st with mark := m }
            vol := if m = .inService ∧ x.vol.motion = .stuck then { x.vol with motion := .atRest } else x.vol }) ∧
      (∀ v, v ∉ vs → u.valve? v = s.valve? v) ∧
      (m = .inService → u.incidents = s.incidents ∧ u.planner = s.planner) ∧
      (∀ v (k : Fin 16) (st : Step), m = .inoperable → vs = [v] → (s.inc k).state = .closing →
        (s.inc k).stepFor v = some st → st.state = .waiting ∨ st.state = .moving ∨ st.state = .shadow →
        v ∉ (s.inc k).excl → (s.inc k).excl.length < 16 →
        (u.inc k).state = .replanning ∧ (u.inc k).excl = (s.inc k).excl ++ [v] ∧ (u.inc k).staged = none ∧
          (u.inc k).flags &&& IncFlag.stepFailed.bit ≠ 0) ∧
      (∀ k, (u.inc k).tag = (s.inc k).tag ∧ (u.inc k).plan = (s.inc k).plan) ∧
      u.lines = s.lines ∧ u.zones = s.zones ∧ { u.image with valves := s.image.valves } = s.image ∧
      u.finish.kept = { s.kept.answered h.link (replyTo (.mark h vs m.code) h .done []) with image := u.image }) ∧
  (∀ (h : Hdr) (s : State) (vs : List Nat) (m : Nat), s.readyRunning (.mark h vs m) h →
    (vs = [] ∨ 16 < vs.length ∨ 1 < m → exec (.mark h vs m) s = .next (s.answers (.mark h vs m) h .outOfRange [])) ∧
    (vs ≠ [] → vs.length ≤ 16 → m ≤ 1 → (∃ v ∈ vs, s.valve? v = none) →
      exec (.mark h vs m) s = .next (s.answers (.mark h vs m) h .badIndex [])))

/-- LOCK of a valve at rest and FRESH adds its entry at the accepted position, raises LOCK_CHANGE and makes a lock-area write
due; the request stays in its link's slot. Valves, motions and incidents are as before.
LOCK's refusals, in order: BAD_INDEX, LOCKED, MOVING, STALE, TABLE_FULL; nothing else changes. -/
def Obligations.LockAddsAnEntryAndTheReplyWaits : Prop :=
  (∀ (h : Hdr) (s : State) (v p : Nat) (x : Valve), s.readyRunning (.lock h v) h → s.valve? v = some x →
    s.isLocked v = false → x.vol.motion = .atRest → s.hasMover v = false → x.vol.waiting = [] → x.vol.status = .fresh →
    s.locks.length < 64 → x.vol.accepted = some p →
    let e : LockEntry := { valve := v, link := h.link, position := p }
    ∃ t : State, exec (.lock h v) s = .next t ∧ t.locks = s.locks ++ [e] ∧
      (s.store.active = none → t.store = { s.store with active := some (.locks h.link (s.locks ++ [e])) }) ∧
      (s.store.active ≠ none → t.store = { s.store with due := s.store.due ++ [.locks h.link] }) ∧
      (∀ k, (t.port k).device &&& DevFlag.lockChange.bit =
        if (s.port k).devMask &&& DevFlag.lockChange.bit = 0 then (s.port k).device &&& DevFlag.lockChange.bit
        else DevFlag.lockChange.bit) ∧
      t.valves = s.valves ∧ t.incidents = s.incidents ∧ t.planner = s.planner ∧ t.zones = s.zones ∧
      (∀ l, (t.line l).slots = (s.line l).slots ∧ (t.line l).txn = (s.line l).txn) ∧
      t.kept = { s.kept.held h.link (heldAs (.lock h v) h) with locks := t.locks, store := t.store }) ∧
  (∀ (h : Hdr) (s : State) (v : Nat), s.readyRunning (.lock h v) h →
    match s.valve? v with
    | none => exec (.lock h v) s = .next (s.answers (.lock h v) h .badIndex [])
    | some x =>
      if s.isLocked v = true then exec (.lock h v) s = .next (s.answers (.lock h v) h .locked [])
      else if x.vol.motion ≠ .atRest ∨ s.hasMover v = true ∨ x.vol.waiting ≠ [] then
        exec (.lock h v) s = .next (s.answers (.lock h v) h .moving [])
      else if x.vol.status ≠ .fresh then exec (.lock h v) s = .next (s.answers (.lock h v) h .stale [])
      else if 64 ≤ s.locks.length then exec (.lock h v) s = .next (s.answers (.lock h v) h .tableFull [])
      else True)

/-- UNLOCK takes the valve's entry off the list, raises LOCK_CHANGE and makes a lock-area write due; the request stays in its
slot. Without an entry it is WRONG_STATE, of another link's entry without FORCE NOT_OWNER. An unknown FORCE is
OUT_OF_RANGE before any other test (log 14). -/
def Obligations.UnlockRemovesTheEntry : Prop :=
  ∀ (h : Hdr) (s : State) (v f : Nat), s.readyRunning (.unlock h v f) h → permitted (.unlock h v f) h.link = true →
    (1 < f → exec (.unlock h v f) s = .next (s.answers (.unlock h v f) h .outOfRange [])) ∧
    (f ≤ 1 → 767 < v → exec (.unlock h v f) s = .next (s.answers (.unlock h v f) h .badIndex [])) ∧
    (f ≤ 1 → v ≤ 767 → s.lockOf v = none →
      exec (.unlock h v f) s = .next (s.answers (.unlock h v f) h .wrongState [])) ∧
    ∀ e, f ≤ 1 → v ≤ 767 → s.lockOf v = some e →
      if e.link ≠ h.link ∧ f = 0 then exec (.unlock h v f) s = .next (s.answers (.unlock h v f) h .notOwner [])
      else
        let left := s.locks.filter fun e => decide (e.valve ≠ v)
        ∃ t : State, exec (.unlock h v f) s = .next t ∧ t.locks = left ∧
          (s.store.active = none → t.store = { s.store with active := some (.locks h.link left) }) ∧
          (s.store.active ≠ none → t.store = { s.store with due := s.store.due ++ [.locks h.link] }) ∧
          (∀ k, (t.port k).device &&& DevFlag.lockChange.bit =
            if (s.port k).devMask &&& DevFlag.lockChange.bit = 0 then (s.port k).device &&& DevFlag.lockChange.bit
            else DevFlag.lockChange.bit) ∧
          t.valves = s.valves ∧ t.incidents = s.incidents ∧ t.planner = s.planner ∧ t.zones = s.zones ∧
          t.lines = s.lines ∧
          t.kept = { s.kept.held h.link (heldAs (.unlock h v f) h) with locks := t.locks, store := t.store }

/-- RELEASE of an orphan at rest takes the next arrival number and waits as the valve's motion; nothing else changes but what is
granted. Any other valve is WRONG_STATE, an undefined one BAD_INDEX. After every command that concerns the field side the orphan
count is the number of valves that are neither locked nor held, stand away from their normal position, and have no mover and no
waiting motion, 0 in STARTING; a rise from 0 in RUNNING sets ORPHANS_PRESENT on every link that enables it. The instants at
which the count is taken are the model's choice (log 26). A valve to which a release has just been completed is no orphan,
whatever its accepted position; how long that lasts is the model's choice (log 41). -/
def Obligations.ReleaseOfAnOrphanWaitsForItsGrant : Prop :=
  (∀ (h : Hdr) (s : State) (v : Nat), s.readyRunning (.release h v) h →
    match s.valve? v with
    | none => exec (.release h v) s = .next (s.answers (.release h v) h .badIndex [])
    | some x =>
      if s.dispositionOf v x = .orphan ∧ x.vol.motion = .atRest then
        exec (.release h v) s = .next
          ((({ s with releaseCount := s.releaseCount + 1 } : State).modVol v fun y =>
            { y with waiting := [.release (s.releaseCount + 1)] }).answers (.release h v) h .accepted []).finish
      else exec (.release h v) s = .next (s.answers (.release h v) h .wrongState [])) ∧
  ∀ u : State,
    let orphan (s : State) (e : Nat × Valve) : Bool :=
      match e.2.vol.accepted with
      | none => false
      | some p =>
        decide (p ≠ match e.2.st.normal with
          | .closed => 0
          | .opened => e.2.st.turns) && !s.isLocked e.1 && e.2.vol.holds.isEmpty && (s.mover e.1).isNone &&
          e.2.vol.waiting.isEmpty && !e.2.vol.released
    u.finish.orphanCount =
        (if u.finish.device = .starting then 0 else (u.finish.valves.filter (orphan u.finish)).length) ∧
      u.settle = settleFor settleBound u.refreshOrphans ∧
      u.refreshOrphans.orphanCount = (if u.device = .starting then 0 else (u.valves.filter (orphan u)).length) ∧
      ∀ k, (u.refreshOrphans.port k).device =
        if u.device = .running ∧ u.orphanCount = 0 ∧ (∃ e ∈ u.valves, orphan u e = true) ∧
            (u.port k).devMask &&& DevFlag.orphansPresent.bit ≠ 0 then
          (u.port k).device ||| DevFlag.orphansPresent.bit
        else (u.port k).device

/-- NOTICE_MASK enables or disables the kinds of its two words in its own link's masks and changes nothing else; a word that
names a kind that does not exist, or an unknown value, is OUT_OF_RANGE.
ACK removes the selected device flags, or the selected kinds of its own link's copy for a slot, and changes nothing else.
A copy with another tag is STALE_TAG, a slot above 15 BAD_INDEX, a kind that does not exist OUT_OF_RANGE.
That enable is 1 and disable 0, and that ACK carries a flag word of one byte for DEVICE and of two for any other target, a slot or
not, is the model's choice (log 12). -/
def Obligations.NoticeMaskAndAckChangeTheirLinkOnly : Prop :=
  (∀ (h : Hdr) (s : State) (inc dev e : Nat), s.readyRunning (.noticeMask h inc dev e) h →
    if 1 < e ∨ 8191 < inc ∨ 63 < dev then
      exec (.noticeMask h inc dev e) s = .next (s.answers (.noticeMask h inc dev e) h .outOfRange [])
    else
      exec (.noticeMask h inc dev e) s = .next
        ((s.modPort h.link fun p =>
          if e = 1 then
            { p with
              incMask := p.incMask ||| BitVec.ofNat 16 inc
              devMask := p.devMask ||| BitVec.ofNat 8 dev }
          else
            { p with
              incMask := p.incMask &&& ~~~(BitVec.ofNat 16 inc)
              devMask := p.devMask &&& ~~~(BitVec.ofNat 8 dev) }).answers (.noticeMask h inc dev e) h .done [])) ∧
  (∀ (h : Hdr) (s : State) (g tag f : Nat), s.readyRunning (.ack h g tag f) h →
    (g = 255 →
      if 63 < f then exec (.ack h g tag f) s = .next (s.answers (.ack h g tag f) h .outOfRange [])
      else exec (.ack h g tag f) s = .next
        ((s.modPort h.link fun p => { p with device := p.device &&& ~~~(BitVec.ofNat 8 f) }).answers (.ack h g tag f) h
          .done [])) ∧
    (15 < g → g ≠ 255 → exec (.ack h g tag f) s = .next (s.answers (.ack h g tag f) h .badIndex [])) ∧
    ∀ k : Fin 16, k.val = g →
      if 8191 < f then exec (.ack h g tag f) s = .next (s.answers (.ack h g tag f) h .outOfRange [])
      else if ((s.port h.link).copies.get k).tag ≠ some tag then
        exec (.ack h g tag f) s = .next (s.answers (.ack h g tag f) h .staleTag [])
      else exec (.ack h g tag f) s = .next
        ((s.modPort h.link fun p =>
          { p with
            copies := p.copies.set k
              (Copy.mk (some tag) ((p.copies.get k).pending &&& ~~~(BitVec.ofNat 16 f))) }).answers
          (.ack h g tag f) h .done []))

/-! ## The store -/

/-- MODEL_STORE captures the image, begins its write or lets it wait for the one in progress, and keeps its link's slot;
while an image write is in progress or waits it is BUSY. Nothing else changes. -/
def Obligations.ModelStoreCapturesTheImage : Prop :=
  ∀ (h : Hdr) (s : State), s.readyRunning (.modelStore h) h → isControl h.link = true →
    if s.imageWriting = true then exec (.modelStore h) s = .next (s.answers (.modelStore h) h .busy [])
    else
      let t := s.modPort h.link fun p => { p with slot := some (heldAs (.modelStore h) h) }
      (s.store.active = none → exec (.modelStore h) s =
        .next { t with store := { s.store with active := some (.image h.link s.image) } }) ∧
      (s.store.active ≠ none → exec (.modelStore h) s =
        .next { t with store := { s.store with due := s.store.due ++ [.image h.link s.image] } })

/-- The end of a store write: the area holds what was captured where the CRC-32 of the bytes read back checks, and is bad (an
image) or open (a lock list, log 1) where it does not; the waiting request is answered DONE or STORE_FAULT, a bad check
raises STORE_FAULT, the next write that waits begins, and nothing else changes. What
a good and a failed check leave in the area is read by inference (log 11). -/
def Obligations.StoreWriteEndAnswersItsRequest : Prop :=
  ∀ (s : State) (bytes : List Byte) (crc : BitVec 32) (l : Link) (q : Held), (s.port l).slot = some q →
    let good := decide (crc32 bytes = crc)
    let next : Option Write × List WriteDue :=
      match s.store.due with
      | [] => (none, [])
      | .image k x :: rest => (some (.image k x), rest)
      | .locks k :: rest => (some (.locks k s.locks), rest)
    let r : Reply := { kind := q.code, tag := q.tag, outcome := if good then .done else .storeFault, items := [] }
    (∀ x, s.store.active = some (.image l x) →
      ∃ t : State, exec (.imageWriteEnd bytes crc) s = .next t ∧
        t.store = { s.store with image := if good then .good x else .bad, active := next.1, due := next.2 } ∧
        t.kept = { s.kept.released l r with store := t.store } ∧
        { t with store := s.store, portA := s.portA, portB := s.portB, portS := s.portS } = s ∧
        ∀ k, (t.port k).device = if good ∨ (s.port k).devMask &&& DevFlag.storeFault.bit = 0 then (s.port k).device
          else (s.port k).device ||| DevFlag.storeFault.bit) ∧
    ∀ x, s.store.active = some (.locks l x) →
      ∃ t : State, exec (.lockAreaWriteEnd bytes crc) s = .next t ∧
        t.store = { s.store with locks := if good then .good x else .doubtful x, active := next.1, due := next.2 } ∧
        t.kept = { s.kept.released l r with store := t.store } ∧
        { t with store := s.store, portA := s.portA, portB := s.portB, portS := s.portS } = s ∧
        ∀ k, (t.port k).device = if good ∨ (s.port k).devMask &&& DevFlag.storeFault.bit = 0 then (s.port k).device
          else (s.port k).device ||| DevFlag.storeFault.bit

/-! ## Incidents -/

/-- OPEN takes the lowest FREE slot and the next serial tag: the slot's record is new, the planner is asked, every link's copy
for the slot is emptied, and the reply carries slot and tag. Every other slot and everything else is unchanged. OPEN's refusals,
in order: BAD_INDEX, DISUSED, IN_ZONE, TABLE_FULL; nothing else changes. That an OPEN repeated before the first incident has a plan is
IN_ZONE, by R129 and not by the remark of R189, is read by inference (log 51). -/
def Obligations.OpenTakesTheLowestFreeSlot : Prop :=
  (∀ (h : Hdr) (s : State) (n prio : Nat) (x : Seg) (k : Fin 16), s.readyRunning (.openInc h n prio) h →
    s.seg? n = some x → x.use = .inService → s.inZone n = false → (s.inc k).state = .free →
    (∀ j, j < k → (s.inc j).state ≠ .free) → k ∉ s.planner.queue →
    (∀ c, s.planner.comp = some c → c.slot = k → c.tag ≠ nextTag s.tagCounter) →
    let t := nextTag s.tagCounter
    let r : Reply := { kind := 30, tag := h.tag, outcome := .accepted, items := [u8 k.val, u16 t] }
    ∃ u : State, exec (.openInc h n prio) s = .next u ∧
      u.inc k = { Incident.empty with
        state := .planning, tag := some t, link := some h.link, burst := some n, reqPrio := min 3 prio
        effPrio := min 3 prio } ∧
      (∀ j, j ≠ k → u.inc j = s.inc j) ∧
      (s.planner.queue = [] → s.planner.comp = none →
        u.planner = { queue := [], comp := some (Comp.begin (u.inc k) k) }) ∧
      (s.planner.comp ≠ none → u.planner = { s.planner with queue := s.planner.queue ++ [k] }) ∧
      (∀ l j, (u.port l).copies.get j = if j = k then { tag := some t, pending := 0 } else (s.port l).copies.get j) ∧
      { u with
        incidents := s.incidents, planner := s.planner, tagCounter := s.tagCounter, portA := s.portA, portB := s.portB
        portS := s.portS } = s ∧
      u.kept = { s.kept.answered h.link r with tagCounter := t }) ∧
  (∀ (h : Hdr) (s : State) (n prio : Nat), s.readyRunning (.openInc h n prio) h →
    match s.seg? n with
    | none => exec (.openInc h n prio) s = .next (s.answers (.openInc h n prio) h .badIndex [])
    | some x =>
      if x.use = .disused then exec (.openInc h n prio) s = .next (s.answers (.openInc h n prio) h .disused [])
      else if ∃ k : Fin 16, (s.inc k).state ≠ .free ∧ ((s.inc k).burst = some n ∨ n ∈ (s.inc k).zoneList) then
        exec (.openInc h n prio) s = .next (s.answers (.openInc h n prio) h .inZone [])
      else if ∀ k : Fin 16, (s.inc k).state ≠ .free then
        exec (.openInc h n prio) s = .next (s.answers (.openInc h n prio) h .tableFull [])
      else True)

/-- CONCUR from a link other than the opener's, of an incident that awaits concurrence: it records the link and enters CLOSING,
its slot holds every step valve, and with a first plan its waves 1 and 2 are current and staged. That the first plan is told by
its kind is read by inference (log 17). A wave advance (R158): the current wave's steps are all at an end for CLOSING or
RESTORING, the staged wave becomes current and the next one that exists staged; in CLOSING nothing else changes, and in
RESTORING the steps of the new wave are taken up: they wait, their valves are no longer held by the incident, and they are
listed as waiting motions unless still the mover. While a wave may advance, something is due. -/
def Obligations.ConcurEntersClosing : Prop :=
  (∀ (h : Hdr) (s : State) (k : Fin 16) (tag : Nat), s.readyToName (.concur h k.val tag) h k tag →
    if (s.inc k).state ≠ .awaitingConcurrence then
      exec (.concur h k.val tag) s = .next (s.answers (.concur h k.val tag) h .wrongState [])
    else if (s.inc k).link = some h.link then
      exec (.concur h k.val tag) s = .next (s.answers (.concur h k.val tag) h .sameLink [])
    else
      ∃ u : State, exec (.concur h k.val tag) s = .next u.finish ∧ (u.inc k).state = .closing ∧
        (u.inc k).concGiven = some h.link ∧
        (∀ v ∈ (s.inc k).stepValves, s.valve? v ≠ none → k ∈ u.holds v) ∧
        ((s.inc k).firstPlan = true →
          (u.inc k).current = waveIf (s.inc k).lastWave 1 ∧ (u.inc k).staged = waveIf (s.inc k).lastWave 2) ∧
        ((s.inc k).firstPlan = false →
          (u.inc k).current = (s.inc k).current ∧ (u.inc k).staged = (s.inc k).staged) ∧
        u.finish.kept = s.kept.answered h.link (replyTo (.concur h k.val tag) h .done [])) ∧
  (∀ s t : State, s.advance? = some t →
    ∃ (i : Fin 16) (c d : Nat), (s.inc i).current = some c ∧ (s.inc i).staged = some d ∧
      (((s.inc i).state = .closing ∧
          ∀ st ∈ (s.inc i).steps, st.wave = c → st.state ∈ [StepState.closed, .skipped, .failed]) ∨
        ((s.inc i).state = .restoring ∧
          ∀ st ∈ (s.inc i).steps, st.wave = c → st.state ∈ [StepState.reopened, .retained, .failed])) ∧
      (t.inc i).state = (s.inc i).state ∧ (t.inc i).current = some d ∧
      (t.inc i).staged = (if d + 1 ≤ (s.inc i).lastWave then some (d + 1) else none) ∧
      (∀ j, j ≠ i → t.inc j = s.inc j) ∧ t.planner = s.planner ∧ t.lines = s.lines ∧ t.zones = s.zones ∧
      t.kept = s.kept ∧
      ((s.inc i).state = .closing →
        t.valves = s.valves ∧ t.inc i = { s.inc i with current := some d, staged := (t.inc i).staged }) ∧
      ((s.inc i).state = .restoring → ∀ g, (s.inc i).tag = some g →
        ∀ v, (∃ st ∈ (s.inc i).steps, st.valve = v) →
          if ∃ st ∈ (s.inc i).steps, st.valve = v ∧ st.wave = d then
            i ∉ t.holds v ∧ (∃ z, (t.inc i).stepFor v = some z ∧ z.state = .waiting ∧ z.takenUp = true) ∧
              ((∀ m, s.mover v = some m → m.owner ≠ .step i g) →
                ∀ x, t.valve? v = some x → .restore i g ∈ x.vol.waiting)
          else (t.inc i).stepFor v = (s.inc i).stepFor v ∧ t.holds v = s.holds v)) ∧
  ∀ s : State, s.due? = none → ∀ (i : Fin 16) (c d : Nat), (s.inc i).current = some c → (s.inc i).staged = some d →
    ((s.inc i).state = .closing →
      ∃ st ∈ (s.inc i).steps, st.wave = c ∧ st.state ∉ [StepState.closed, .skipped, .failed]) ∧
    ((s.inc i).state = .restoring →
      ∃ st ∈ (s.inc i).steps, st.wave = c ∧ st.state ∉ [StepState.reopened, .retained, .failed])

/-- WITHDRAW of an incident that awaits concurrence (its own only, from link S) and ABANDON of any in use: the slot is FREE, what
R128 names of its tenancy is discarded (its link, burst segment, priorities and concurrence are not named there and stay, log 22, of
which this says nothing), no valve is held by it, no restore of it waits, ENDED is raised, and every other incident's state and tag
are unchanged. Every step of it that is the mover of its valve is stopped for ABANDON or WITHDRAW first, as
`stopMovers` does (StoppingAMotionHandsAStopOrEndsIt). In which order the STOPs of several motions join a queue is the model's choice
(log 44). That the motions which still hold a slot keep the step number they had is read by inference (log 28). That the flags raised are discarded after ENDED is raised,
so that the FREE slot shows none, is the model's choice (log 50). -/
def Obligations.WithdrawAndAbandonFreeTheSlot : Prop :=
  ∀ (h : Hdr) (s : State) (k : Fin 16) (tag : Nat) (i : Instr), s.readyToName i h k tag →
    (i = .withdraw h k.val tag → (s.inc k).state ≠ .awaitingConcurrence →
      exec i s = .next (s.answers i h .wrongState [])) ∧
    (i = .withdraw h k.val tag → (s.inc k).state = .awaitingConcurrence → h.link = .S → (s.inc k).link ≠ some .S →
      exec i s = .next (s.answers i h .notOwner [])) ∧
    (i = .abandon h k.val tag ∨
        (i = .withdraw h k.val tag ∧ (s.inc k).state = .awaitingConcurrence ∧
          (h.link = .S → (s.inc k).link = some .S)) →
      ∃ u : State, exec i s = .next u.finish ∧
        (let b := (s.holding i h).stopMovers k (if i = .abandon h k.val tag then .abandon else .withdraw)
         (∀ l j, u.motionAt l j = (b.motionAt l j).map fun m =>
            if m.owner = .step k tag then { m with stepNo := (b.inc k).stepNo m.valve } else m) ∧
          (∀ l, (u.line l).queue = (b.line l).queue ∧ (u.line l).kept = (b.line l).kept) ∧
          ∀ v, u.motion v = b.motion v) ∧
        (u.inc k).state = .free ∧ (u.inc k).tag = (s.inc k).tag ∧ (u.inc k).plan = none ∧ (u.inc k).excl = [] ∧ (u.inc k).current = none ∧ (u.inc k).staged = none ∧
        (u.inc k).failure = none ∧ (u.inc k).flags = 0 ∧ (u.inc k).watch = .idle ∧ k ∉ u.planner.queue ∧
        (∀ v, k ∉ u.holds v) ∧ (∀ v x t, u.valve? v = some x → .restore k t ∉ x.vol.waiting) ∧
        (∀ l, (s.port l).incMask &&& IncFlag.ended.bit ≠ 0 →
          ((u.port l).copies.get k).tag = (s.inc k).tag ∧
            ((u.port l).copies.get k).pending &&& IncFlag.ended.bit ≠ 0) ∧
        (∀ j, j ≠ k → (u.inc j).state = (s.inc j).state ∧ (u.inc j).tag = (s.inc j).tag) ∧
        u.finish.kept = s.kept.answered h.link (replyTo i h .done []))

/-- HOLD, by the incident's state: from CLOSING or RESTORING it is HELD with the direction recorded and its motions stopped; in
REPLANNING the hold is pending; in HELD and where one is pending it changes nothing; else it is WRONG_STATE. RESUME, by the
incident's state: from HELD to RESTORING, to REPLANNING where a replan is due, to AWAITING_CONCURRENCE where concurrence is
outstanding, else to CLOSING; in REPLANNING it ends a pending hold; else it is WRONG_STATE. In which order the STOPs of several
motions join a queue is the model's choice (log 44), and so is the order in which RESUME's holds are joined (log 46). -/
def Obligations.HoldAndResumeByTheIncidentsState : Prop :=
  (∀ (h : Hdr) (s : State) (k : Fin 16) (tag : Nat), s.readyToName (.hold h k.val tag) h k tag →
    let a := s.holding (.hold h k.val tag) h
    let done (u : State) := exec (.hold h k.val tag) s = .next (u.reply h.link .done []).finish ∧
      (u.reply h.link .done []).finish.kept = s.kept.answered h.link (replyTo (.hold h k.val tag) h .done [])
    ((s.inc k).state = .closing →
      done ((a.modInc k fun x => { x with state := .held, heldFrom := some .closing }).stopMovers k .hold)) ∧
    ((s.inc k).state = .restoring →
      done ((a.modInc k fun x => { x with state := .held, heldFrom := some .restoring }).stopMovers k .hold)) ∧
    ((s.inc k).state = .replanning → (s.inc k).holdPending = false →
      done ((a.modInc k fun x => { x with holdPending := true }).stopMovers k .hold)) ∧
    ((s.inc k).state = .held ∨ ((s.inc k).state = .replanning ∧ (s.inc k).holdPending = true) → done a) ∧
    ((s.inc k).state ∉ [IncState.closing, .restoring, .replanning, .held] →
      exec (.hold h k.val tag) s = .next (s.answers (.hold h k.val tag) h .wrongState []))) ∧
  (∀ (h : Hdr) (s : State) (k : Fin 16) (tag : Nat), s.readyToName (.resume h k.val tag) h k tag →
    let x := s.inc k
    let a := s.holding (.resume h k.val tag) h
    let done (u : State) := exec (.resume h k.val tag) s = .next (u.reply h.link .done []).finish ∧
      (u.reply h.link .done []).finish.kept = s.kept.answered h.link (replyTo (.resume h k.val tag) h .done [])
    let wrong := exec (.resume h k.val tag) s = .next (s.answers (.resume h k.val tag) h .wrongState [])
    (x.state = .held → x.heldFrom = some .restoring →
      done (a.modInc k fun x => { x with heldFrom := none, state := .restoring })) ∧
    (x.state = .held → x.heldFrom = some .closing → x.replanDue = true →
      done ((a.modInc k fun x =>
        { x with heldFrom := none, replanDue := false, staged := none, state := .replanning }).planningRequest k)) ∧
    (x.state = .held → x.heldFrom = some .closing → x.replanDue = false → x.concRequired = true → x.concGiven = none →
      done ((a.modInc k fun x =>
        { x with heldFrom := none, replanDue := false, state := .awaitingConcurrence }).raiseInc k .concurrenceNeeded)) ∧
    (x.state = .held → x.heldFrom = some .closing → x.replanDue = false → (x.concRequired = false ∨ x.concGiven ≠ none) →
      done ((a.modInc k fun x =>
        { x with heldFrom := none, replanDue := false, state := .closing }).joinAll k x.stepValves)) ∧
    (x.state = .replanning → x.holdPending = true → done (a.modInc k fun x => { x with holdPending := false })) ∧
    (x.state = .replanning → x.holdPending = false → wrong) ∧
    (x.state ≠ .held → x.state ≠ .replanning → wrong))

/-- EXTEND of an isolated incident: the valves join the exclusion list, a running watch is cancelled, the incident is REPLANNING
and the planner is asked; its refusals in order are WRONG_STATE, OUT_OF_RANGE, BAD_INDEX and LIST_FULL. The count is that of the
list as carried, repeats included, which is the model's choice (log 43). That a watch that has ENDED stays ENDED is read by
inference (log 18). -/
def Obligations.ExtendReplansAnIsolatedIncident : Prop :=
  ∀ (h : Hdr) (s : State) (k : Fin 16) (tag : Nat) (vs : List Nat), s.readyToName (.extend h k.val tag vs) h k tag →
    let x := s.inc k
    let excl := x.excl ++ (dedup vs).filter fun v => !x.excl.contains v
    if x.state ∉ [IncState.isolated, .confirmed, .leakThrough] then
      exec (.extend h k.val tag vs) s = .next (s.answers (.extend h k.val tag vs) h .wrongState [])
    else if vs = [] ∨ 8 < vs.length then
      exec (.extend h k.val tag vs) s = .next (s.answers (.extend h k.val tag vs) h .outOfRange [])
    else if ∃ v ∈ vs, v ∉ x.stepValves then
      exec (.extend h k.val tag vs) s = .next (s.answers (.extend h k.val tag vs) h .badIndex [])
    else if 16 < excl.length then
      exec (.extend h k.val tag vs) s = .next (s.answers (.extend h k.val tag vs) h .listFull [])
    else
      exec (.extend h k.val tag vs) s = .next
        ((((s.holding (.extend h k.val tag vs) h).modInc k fun x =>
          { x with excl := excl, state := .replanning, staged := none, watch := x.watch.cancel }).planningRequest
          k).reply h.link .accepted []).finish

/-- CONFIRM of a LEAK_THROUGH incident, or of an ISOLATED one whose watch has ended: it is CONFIRMED and raises CONFIRMED; no
other part of any incident, valve or line changes. In any other state it is WRONG_STATE. -/
def Obligations.ConfirmConfirmsTheIsolation : Prop :=
  ∀ (h : Hdr) (s : State) (k : Fin 16) (tag : Nat), s.readyToName (.confirm h k.val tag) h k tag →
    if (s.inc k).state = .leakThrough ∨ ((s.inc k).state = .isolated ∧ (s.inc k).watch = .ended) then
      ∃ t : State, exec (.confirm h k.val tag) s = .next t ∧
        t.inc k = { s.inc k with state := .confirmed, flags := (s.inc k).flags ||| IncFlag.confirmed.bit } ∧
        (∀ j, j ≠ k → t.inc j = s.inc j) ∧
        (∀ l, (s.port l).incMask &&& IncFlag.confirmed.bit ≠ 0 →
          ((t.port l).copies.get k).tag = (s.inc k).tag ∧
            ((t.port l).copies.get k).pending &&& IncFlag.confirmed.bit ≠ 0) ∧
        { t with incidents := s.incidents, portA := s.portA, portB := s.portB, portS := s.portS } = s ∧
        t.kept = s.kept.answered h.link (replyTo (.confirm h k.val tag) h .done [])
    else exec (.confirm h k.val tag) s = .next (s.answers (.confirm h k.val tag) h .wrongState [])

/-- RESTORE of an isolated or PLAN_FAILED incident, or one HELD from CLOSING: it is RESTORING in waves of four of the restore
order, its watch and marks are cleared, and the steps of wave 1 are taken up: their valves are no longer held by it and they
wait. First every step that is the mover of its valve is stopped for RESTORE, as `stopMovers` does
(StoppingAMotionHandsAStopOrEndsIt), in an order that is the model's choice (log 44). In any other state it is WRONG_STATE. That a watch that has ENDED stays ENDED is read by inference (log 18). The end of a
restore (R154), also while it is HELD: every step is REOPENED, RETAINED or FAILED, the slot is FREE, what R128 names of its tenancy
is discarded (its link, burst segment, priorities and concurrence are not named there and stay, log 22, of which this says
nothing), RESTORED is raised, and no other incident changes. While a restore has ended so, something is due. That the
flags raised are discarded after RESTORED is raised, so that the FREE slot shows none, is the model's choice (log 50). -/
def Obligations.RestoreTakesUpItsFirstWave : Prop :=
  (∀ (h : Hdr) (s : State) (k : Fin 16) (tag : Nat), s.readyToName (.restore h k.val tag) h k tag →
    let x := s.inc k
    if x.state ∈ [IncState.isolated, .confirmed, .leakThrough, .planFailed] ∨
        (x.state = .held ∧ x.heldFrom = some .closing) then
      ∃ u : State, exec (.restore h k.val tag) s = .next u.finish ∧
        (let b := (((s.holding (.restore h k.val tag) h).modInc k fun x =>
          { x with watch := x.watch.cancel, holdPending := false, heldFrom := none, replanDue := false }).dropEntry
          k).stopMovers k .restore
         u.lines = b.lines ∧ u.zones = b.zones ∧ ∀ v, u.motion v = b.motion v) ∧
        (u.inc k).state = .restoring ∧
        (u.inc k).tag = x.tag ∧ (u.inc k).holdPending = false ∧ (u.inc k).heldFrom = none ∧
        (u.inc k).replanDue = false ∧ (u.inc k).watch = x.watch.cancel ∧ (u.inc k).stepValves = x.stepValves ∧
        (u.inc k).current = (if x.steps = [] then none else some 1) ∧
        (u.inc k).staged = (if x.steps.length ≤ 4 then none else some 2) ∧ k ∉ u.planner.queue ∧
        (∀ v ∈ (restoreOrder x.steps).take 4, k ∉ u.holds v ∧
          ∀ st, (u.inc k).stepFor v = some st → st.state = .waiting ∧ st.takenUp = true ∧ st.wave = 1) ∧
        (∀ j, j ≠ k → (u.inc j).state = (s.inc j).state ∧ (u.inc j).tag = (s.inc j).tag) ∧
        u.finish.kept = s.kept.answered h.link (replyTo (.restore h k.val tag) h .accepted [])
    else exec (.restore h k.val tag) s = .next (s.answers (.restore h k.val tag) h .wrongState [])) ∧
  (∀ s t : State, s.restoreEnd? = some t →
    ∃ i : Fin 16, ((s.inc i).state = .restoring ∨ ((s.inc i).state = .held ∧ (s.inc i).heldFrom = some .restoring)) ∧
      (∀ st ∈ (s.inc i).steps, st.state ∈ [StepState.reopened, .retained, .failed]) ∧
      (t.inc i).state = .free ∧ (t.inc i).tag = (s.inc i).tag ∧ (t.inc i).plan = none ∧ (t.inc i).excl = [] ∧
      (t.inc i).current = none ∧ (t.inc i).staged = none ∧ (t.inc i).failure = none ∧ (t.inc i).flags = 0 ∧
      (t.inc i).watch = .idle ∧ i ∉ t.planner.queue ∧ (∀ v, i ∉ t.holds v) ∧
      (∀ v x g, t.valve? v = some x → .restore i g ∉ x.vol.waiting) ∧
      (∀ l, (s.port l).incMask &&& IncFlag.restored.bit ≠ 0 →
        ((t.port l).copies.get i).tag = (s.inc i).tag ∧
          ((t.port l).copies.get i).pending &&& IncFlag.restored.bit ≠ 0) ∧
      (∀ j, j ≠ i → t.inc j = s.inc j) ∧ t.kept = s.kept) ∧
  ∀ s : State, s.due? = none → ∀ i : Fin 16,
    (s.inc i).state = .restoring ∨ ((s.inc i).state = .held ∧ (s.inc i).heldFrom = some .restoring) →
      ∃ st ∈ (s.inc i).steps, st.state ∉ [StepState.reopened, .retained, .failed]

/-- A motion that is stopped: in a phase that moves it is handed a STOP, loses its motion timer and is STOPPING for that reason;
in a wait state its slot is free at once and its valve is at rest; in STOPPING the later stop takes the place of the earlier
one, a guard stop or a reversal included (log 20), and nothing more is handed. No other slot of any line changes. A request that
stops the motions of an incident stops so every motion of its steps and no other. A slot that joins a hold set withdraws a
release that waits and starts a reversal of an opening in OPEN_WAIT, OPEN_SLOW, OPEN_RUN or stopped by the guard, and of nothing
else: the moving one is handed a STOP and is STOPPING, the one stopped by the guard leaves the guard's list, each with the
incident recorded; in OPEN_WAIT the opening ends at once, its step RETAINED, and the slot goes to the incident's step where that
waits and could be offered but for its wave, else it is free. -/
def Obligations.StoppingAMotionHandsAStopOrEndsIt : Prop :=
  (∀ (s : State) (l j : Fin 4) (m : Motion) (x : Valve) (k : StopKind), s.motionAt l j = some m →
    s.valve? m.valve = some x → k ≠ .guard → k ≠ .reversal →
    (x.vol.motion ∈ [MotionState.closeRun, .closeSlow, .openSlow, .openRun] →
      (s.stopMotion l j m k).motionAt l j = some { m with stop := some k, motionTimer := none } ∧
      (s.stopMotion l j m k).valve? m.valve = some { x with vol := { x.vol with motion := .stopping } } ∧
      ((s.stopMotion l j m k).line l).queue = ((s.line l).hand m.valve .stop).queue) ∧
    (x.vol.motion = .closeWait ∨ x.vol.motion = .openWait →
      (s.stopMotion l j m k).motionAt l j = none ∧ (s.stopMotion l j m k).motion m.valve = .atRest ∧
      m.valve ∉ ((s.stopMotion l j m k).zone (s.zoneOf m.valve)).requests ∧
      m.valve ∉ ((s.stopMotion l j m k).zone (s.zoneOf m.valve)).holders) ∧
    (x.vol.motion = .stopping →
      (s.stopMotion l j m k).motionAt l j = some { m with stop := some k, reversal := none } ∧
      (s.stopMotion l j m k).valves = s.valves ∧ (s.stopMotion l j m k).zones = s.zones ∧
      ∀ l', ((s.stopMotion l j m k).line l').queue = (s.line l').queue) ∧
    (∀ l' j', (l', j') ≠ (l, j) → (s.stopMotion l j m k).motionAt l' j' = s.motionAt l' j') ∧
    (s.stopMotion l j m k).kept = s.kept) ∧
  (∀ (s : State) (i : Fin 16) (g : Nat) (k : StopKind), (s.inc i).tag = some g → k ≠ .guard → k ≠ .reversal →
    (∀ l j m l' j' m', s.motionAt l j = some m → s.motionAt l' j' = some m' → m.valve = m'.valve → l = l' ∧ j = j') →
    let t := s.stopMovers i k
    t.kept = s.kept ∧
      (∀ l j, (∀ m, s.motionAt l j = some m → m.owner ≠ .step i g) → t.motionAt l j = s.motionAt l j) ∧
      ∀ l j m x, s.motionAt l j = some m → m.owner = .step i g → s.valve? m.valve = some x →
        (x.vol.motion ∈ [MotionState.closeRun, .closeSlow, .openSlow, .openRun] →
          t.motionAt l j = some { m with stop := some k, motionTimer := none } ∧ t.motion m.valve = .stopping ∧
            ((s.line l).state ≠ .stopped →
              ∃ e ∈ (t.line l).queue ++ (t.line l).kept, e.valve = m.valve ∧ (e.cmd = .stop ∨ e.next = some .stop))) ∧
        (x.vol.motion = .stopping →
          t.motionAt l j = some { m with stop := some k, reversal := none } ∧ t.motion m.valve = .stopping) ∧
        (x.vol.motion = .closeWait ∨ x.vol.motion = .openWait →
          t.motionAt l j = none ∧ t.motion m.valve = .atRest)) ∧
  ∀ (s : State) (i : Fin 16) (v : Nat) (x : Valve), s.valve? v = some x →
    let t := s.joinHold i v
    (i ∈ s.holds v → t = s) ∧
    (i ∉ s.holds v → i ∈ t.holds v ∧ (∀ k ∈ s.holds v, k ∈ t.holds v) ∧
      (∀ y n, t.valve? v = some y → .release n ∉ y.vol.waiting) ∧
      (s.moverAt v = none → ∀ l' j', t.motionAt l' j' = s.motionAt l' j') ∧
      ∀ l j m, s.moverAt v = some (l, j, m) →
        let caused := (s.inc i).tag.map fun g => (i, g)
        let retained := ∀ k g st, m.owner = .step k g → s.tenancy k g = true → (s.inc k).stepFor v = some st →
          ∃ z, (t.inc k).stepFor v = some z ∧ z.state = .retained
        let inherits (g : Nat) (st : Step) := (s.inc i).tag = some g ∧ m.owner ≠ .step i g ∧
          (s.inc i).stepFor v = some st ∧ st.state = .waiting ∧
          ((s.inc i).state = .closing ∨ ((s.inc i).state = .replanning ∧ (s.inc i).holdPending = false)) ∧
          ((s.inc i).concRequired = false ∨ (s.inc i).concGiven ≠ none)
        (∀ l' j', (l', j') ≠ (l, j) → t.motionAt l' j' = s.motionAt l' j') ∧
        (m.dir = .closing ∨ x.vol.motion ∉ [MotionState.openWait, .openSlow, .openRun, .stopping] ∨
            (x.vol.motion = .stopping ∧ m.stop ≠ some .guard) →
          t.motionAt l j = some m ∧ t.motion v = x.vol.motion ∧ t.incidents = s.incidents) ∧
        (m.dir = .opening → x.vol.motion = .openSlow ∨ x.vol.motion = .openRun →
          t.motionAt l j = some { m with reversal := caused, stop := some .reversal, motionTimer := none } ∧
            t.motion v = .stopping ∧
            ((s.line l).state ≠ .stopped →
              ∃ e ∈ (t.line l).queue ++ (t.line l).kept, e.valve = v ∧ (e.cmd = .stop ∨ e.next = some .stop))) ∧
        (m.dir = .opening → x.vol.motion = .stopping → m.stop = some .guard →
          t.motionAt l j = some { m with reversal := caused, stop := some .reversal } ∧ t.motion v = .stopping ∧
            Stopped.mk v m.owner ∉ (t.zone (s.zoneOf v)).stopped) ∧
        (m.dir = .opening → x.vol.motion = .openWait →
          retained ∧
          ((∀ g st, ¬ inherits g st) →
            t.motionAt l j = none ∧ t.motion v = .atRest ∧ v ∉ (t.zone (s.zoneOf v)).requests) ∧
          ∀ g st, inherits g st → st.takenUp = false →
            if x.vol.closedRun = 2 then
              t.motionAt l j = none ∧ t.motion v = .atRest ∧
                ∃ z, (t.inc i).stepFor v = some z ∧ z.state = .closed ∧ z.takenUp = false
            else
              t.motionAt l j = some
                { owner := .step i g, valve := v, dir := .closing, figures := none, motionTimer := none, stopTimer := none
                  stop := none, reversal := none, stepNo := none } ∧
                (∃ z, (t.inc i).stepFor v = some z ∧ z.state = .moving) ∧
                if slowBoundary x.st.turns < x.vol.accepted.getD x.st.turns then t.motion v = .closeRun
                else t.motion v = .closeWait ∧ v ∈ (t.zone (s.zoneOf v)).requests))

/-! ## Planner -/

/-- COMPUTATION_END: a computation whose tenancy has gone is discarded and the planner begins its next; one with the repeat mark
whose steps pass the re-check joins the tail of the queue again; without a computation nothing happens. What else may follow
never touches `Kept`.
A computation that failed in its search, delivered to an incident in PLANNING or REPLANNING, makes it PLAN_FAILED with the
failure recorded and no waves; in any other state it is discarded. That
nothing happens without a computation is log 7, that the rest of a computation runs at its end log 27, and that PLAN_FAILED clears
held from and replan due and cancels the watch log 18. -/
def Obligations.ComputationEndDiscardsRequeuesOrFails : Prop :=
  (∀ s : State,
    (s.planner.comp = none → exec .computationEnd s = .next s) ∧
    ∀ c, s.planner.comp = some c →
      let e := s.runOut actBound c
      let b : State := { s with planner := { s.planner with comp := none } }
      (s.tenancy e.slot e.tag = false → exec .computationEnd s = .next b.beginComp.finish) ∧
      (s.tenancy e.slot e.tag = true → e.stage = .ready → (∀ p ∈ e.boundary, s.recheck e.slot p ≠ none) →
        e.again = true → e.slot ∉ s.planner.queue →
        exec .computationEnd s = .next ({ b with planner :=
          { queue := s.planner.queue ++ [e.slot], comp := none } } : State).beginComp.finish) ∧
      ∃ t : State, exec .computationEnd s = .next t ∧ t.kept = s.kept) ∧
  (∀ (s : State) (c : Comp) (r : FailReason), s.planner.comp = some c → c.stage = .failed r →
    s.tenancy c.slot c.tag = true →
    ∃ u : State, exec .computationEnd s = .next u.finish ∧ u.kept = s.kept ∧
      (∀ k, k ≠ c.slot → u.inc k = s.inc k) ∧ u.valves = s.valves ∧ u.lines = s.lines ∧ u.zones = s.zones ∧
      if (s.inc c.slot).state = .planning ∨ (s.inc c.slot).state = .replanning then
        u.inc c.slot = { s.inc c.slot with
          state := .planFailed
          failure := some
            { reason := r, zoneCount := some c.zone.length, stepCount := some c.boundary.length
              excl := (s.inc c.slot).excl }
          holdPending := false
          current := none
          staged := none
          heldFrom := none
          replanDue := false
          watch := (s.inc c.slot).watch.cancel
          flags := (s.inc c.slot).flags ||| IncFlag.planFailed.bit }
      else u.inc c.slot = s.inc c.slot)

/-- A computation at its last stage whose steps all pass the re-check delivers its plan to an incident in PLANNING: PLANNED is
raised; with concurrence outstanding the incident holds exactly that plan and awaits it, else it enters CLOSING with waves 1
and 2 current and staged and every step valve held.
What a computation finds that runs from its beginning to its last stage while nothing else happens (R77 to R82): its zone begins
with the burst segment and holds exactly what is reached from it through unusable valves, those excluded, or neither settled steps of a
replan nor usable and let be by policy; its steps are the other valves with one side in the zone; the edge is open where an unusable
valve leads from the zone out of the district. From the feeds on (R83 to R87): zone and step valves stay, the stranded segments are
the defined ones outside the zone that no feed outside it reaches through valves that pass, the protection is the highest over zone
and stranded segments, and each step but a held one is timed in the stricter of its class and that of the plan-stage group. -/
def Obligations.ComputationEndDeliversAFirstPlan : Prop :=
  (∀ (s : State) (c : Comp), s.planner.comp = some c → c.stage = .ready → s.tenancy c.slot c.tag = true →
    (∀ p ∈ c.boundary, s.recheck c.slot p ≠ none) → c.again = false → (s.inc c.slot).state = .planning →
    let x := s.inc c.slot
    let p := c.plan (c.boundary.map fun p => x.deliver p ((s.recheck c.slot p).getD .waiting))
    let last := waveCount (p.steps.filter Step.isWaiting).length
    ∃ u : State, exec .computationEnd s = .next u.finish ∧ u.kept = s.kept ∧
      (u.inc c.slot).effPrio = c.prio ∧ (u.inc c.slot).concRequired = c.concurrence ∧
      (u.inc c.slot).flags &&& IncFlag.planned.bit ≠ 0 ∧
      p.steps.map (·.valve) = c.boundary.map (·.valve) ∧
      if c.concurrence = true ∧ x.concGiven = none then
        (u.inc c.slot).state = .awaitingConcurrence ∧ (u.inc c.slot).plan = some p ∧
          (u.inc c.slot).flags &&& IncFlag.concurrenceNeeded.bit ≠ 0 ∧ ∀ v, u.holds v = s.holds v
      else
        (u.inc c.slot).state = .closing ∧ (u.inc c.slot).current = waveIf last 1 ∧
          (u.inc c.slot).staged = waveIf last 2 ∧ (u.inc c.slot).zoneList = c.zone ∧
          (u.inc c.slot).stepValves = c.boundary.map (·.valve) ∧
          ∀ v ∈ c.boundary.map (·.valve), s.valve? v ≠ none → c.slot ∈ u.holds v) ∧
  (∀ (s : State) (i : Fin 16) (n b : Nat), s.modelSound → (s.inc i).burst = some b →
    let x := s.inc i
    let d := s.runOut n (Comp.begin x i)
    let settled (v : Nat) : Prop := x.steps ≠ [] ∧
      ∃ st, x.stepFor v = some st ∧ st.state ∈ [StepState.closed, .skipped, .shadow, .moving]
    let unusable (v : Nat) (y : Valve) : Prop := v ∈ x.excl ∨
      (¬ settled v ∧ ((s.valveAction v y.st (some b)).exclude = true ∨ s.usable i v = false))
    let through (W : Nat → Prop) : Prop := ∀ a, W a → ∀ v ∈ (s.segOf a).valves, ∀ y, s.valve? v = some y → unusable v y →
      ∀ e, y.st.farSide a = some e → W e
    let inside (e : Option Nat) : Prop := ∃ k, e = some k ∧ k ∈ d.zone
    d.stage = .ready →
      d.zone.head? = some b ∧ d.zone.Nodup ∧ d.zone.length ≤ 64 ∧ d.boundary.length ≤ 48 ∧
      (∀ m, m ∈ d.zone ↔ ∀ W : Nat → Prop, W b → through W → W m) ∧ (d.boundary.map (·.valve)).Nodup ∧
      (∀ v, v ∈ d.boundary.map (·.valve) ↔
        ∃ y, s.valve? v = some y ∧ ¬ unusable v y ∧ ¬ (y.st.sideA ∈ d.zone ↔ inside y.st.sideB)) ∧
      (∀ p ∈ d.boundary, p.held = true ↔ settled p.valve) ∧
      (d.edgeCount ≠ 0 ↔ ∃ v y, s.valve? v = some y ∧ unusable v y ∧ y.st.sideA ∈ d.zone ∧ y.st.sideB = none)) ∧
  ∀ (s : State) (c : Comp) (n : Nat), s.modelSound → c.stage = .feeds → c.explored = [] → c.spillFlag = false →
    let d := s.runOut n c
    let passes (a e : Nat) : Prop := ∃ v ∈ (s.segOf a).valves, ∃ y, s.valve? v = some y ∧ y.st.farSide a = some e ∧
      v ∉ c.boundary.map (·.valve) ∧ y.vol.holds = [] ∧ y.vol.accepted ≠ some 0 ∧
      ¬ (y.vol.status = .unknown ∧ y.st.normal = .closed)
    let fed (W : Nat → Prop) : Prop :=
      (∀ m ∈ s.feeds, m ∉ c.zone → W m) ∧ ∀ a e, W a → passes a e → e ∉ c.zone → W e
    let w := winner s.rules s.groups .plan (s.planTest d)
    let a := action s.rules s.groups w
    d.stage = .ready →
      d.zone = c.zone ∧ d.edgeCount = c.edgeCount ∧ d.boundary.map (·.valve) = c.boundary.map (·.valve) ∧
      (s.feeds = [] → d.noFeeds = true ∧ d.stranded = []) ∧
      (s.feeds ≠ [] → d.noFeeds = c.noFeeds ∧ d.stranded.Sublist (s.segs.map (·.1)) ∧
        ∀ m, m ∈ d.stranded ↔ s.seg? m ≠ none ∧ m ∉ c.zone ∧ ∃ W : Nat → Prop, fed W ∧ ¬ W m) ∧
      d.protection = s.protectionOver (c.zone ++ d.stranded) ∧ d.group = w ∧
      d.prio = effectivePrio a.mode a.value (s.inc c.slot).reqPrio ∧
      (d.concurrence = true ↔ a.concurrence = true ∨ ∃ p ∈ c.boundary, p.concurrence = true) ∧
      d.cls = c.boundary.foldl (fun k p => if p.held = true then k else k.stricter p.cls) a.cls ∧
      ((∀ p ∈ c.boundary, p.figures = none) →
        d.boundary = c.boundary.map fun p => if p.held = true then p else
          { p with
            cls := p.cls.stricter a.cls
            figures := (s.valve? p.valve).map fun y => s.timing y.st c.burst (p.cls.stricter a.cls) })

/-- A step that fails the re-check: its valve joins the exclusion list and the computation is requeued; a list without room
makes an incident in PLANNING PLAN_FAILED. -/
def Obligations.FailedRecheckExcludesAndRequeues : Prop :=
  ∀ (s : State) (c : Comp), s.planner.comp = some c → c.stage = .ready → s.tenancy c.slot c.tag = true →
    let failing := (c.boundary.filter fun p => (s.recheck c.slot p).isNone).map (·.valve)
    failing ≠ [] →
    ∃ u : State, exec .computationEnd s = .next u.finish ∧ u.kept = s.kept ∧
      (∀ v ∈ (s.inc c.slot).excl, v ∈ (u.inc c.slot).excl) ∧
      (∀ v ∈ (u.inc c.slot).excl, v ∈ (s.inc c.slot).excl ∨ v ∈ failing) ∧
      (((s.inc c.slot).excl ++ (dedup failing).filter fun v => !(s.inc c.slot).excl.contains v).length ≤ 16 →
        (u.inc c.slot).excl = (s.inc c.slot).excl ++ (dedup failing).filter (fun v => !(s.inc c.slot).excl.contains v) ∧
          (u.inc c.slot).state = (s.inc c.slot).state ∧
          (c.slot ∈ u.planner.queue ∨ ∃ d, u.planner.comp = some d ∧ d.slot = c.slot)) ∧
      (16 < ((s.inc c.slot).excl ++ (dedup failing).filter fun v => !(s.inc c.slot).excl.contains v).length →
        (s.inc c.slot).excl.length ≤ 16 → (s.inc c.slot).state = .planning →
        (u.inc c.slot).state = .planFailed ∧ (u.inc c.slot).excl.length = 16)

/-- A plan delivered to an incident in REPLANNING merges (R146 to R148); that the merged plan takes the new plan's kind is read
by inference (log 17). Of the existing steps a FAILED one and a WAITING one that the new plan lacks go, leaving the valve's hold
set and its guard's stopped list; a WAITING one it has is BOUNDARY in the re-checked state; every other one stays, BOUNDARY
where the new plan has it and INTERIOR where not, with its state and figures. The new valves' steps follow as BOUNDARY and are
held. More than 48 is PLAN_FAILED with the plan kept. The WAITING steps outside the current wave c are grouped in fours from
wave c + 1 on, every other step keeps its wave, and where c is 0 or has no WAITING, MOVING or SHADOW step, the next wave that
exists is current and the one after it staged. The incident is HELD where a hold was pending, else it awaits concurrence or
closes. The holds come before the waves: a new WAITING step whose valve another's opening in OPEN_WAIT commands is MOVING by the
reversal at once (R176, R177), CLOSED where it is shut, unless a hold is pending or concurrence outstanding by the new plan, which is
read by inference (log 47); it is then grouped in no wave and keeps 0. -/
def Obligations.ComputationEndMergesAReplan : Prop :=
  ∀ (s : State) (c : Comp), s.planner.comp = some c → c.stage = .ready → s.tenancy c.slot c.tag = true →
    (∀ p ∈ c.boundary, s.recheck c.slot p ≠ none) → c.again = false → (s.inc c.slot).state = .replanning →
    let x := s.inc c.slot
    let p := c.plan (c.boundary.map fun p => x.deliver p ((s.recheck c.slot p).getD .waiting))
    let inNew (v : Nat) : Option Step := p.steps.find? fun n => decide (n.valve = v)
    let stays (st : Step) : Option Step :=
      match st.state, inNew st.valve with
      | .failed, _ => none
      | .waiting, none => none
      | .waiting, some n => some { st with role := .boundary, state := n.state }
      | _, some _ => some { st with role := .boundary }
      | _, none => some { st with role := .interior }
    let come : List Step := (p.steps.filter fun n => decide (n.valve ∉ x.stepValves)).map fun n =>
      { n with role := Role.boundary, wave := 0 }
    let merged : List Step := x.steps.filterMap stays ++ come
    let now := x.current.getD 0
    let member (st : Step) : Bool := decide (now ≠ 0 ∧ st.wave = now)
    let regrouped (st : Step) : Bool := decide (st.state = .waiting) && !member st
    let waves (y : Incident) (l : List Step) : Prop :=
      let last := now + ((l.filter regrouped).length + 3) / 4
      let formed (k : Nat) : Option Nat := if 1 ≤ k ∧ k ≤ last then some k else none
      let moves := now = 0 ∨ ∀ st ∈ l, member st = true → st.state ∉ [StepState.waiting, .moving, .shadow]
      y.steps.length = l.length ∧
        (∀ (k : Nat) (st : Step), l[k]? = some st →
          let wave := if regrouped st = true then now + 1 + ((l.take k).filter regrouped).length / 4 else st.wave
          y.steps[k]? = some { st with wave := wave }) ∧
        (moves → y.current = formed (now + 1) ∧ y.staged = formed (now + 2)) ∧
        (¬ moves → y.current = some now ∧ y.staged = formed (now + 1))
    let reversed (st : Step) : Prop := st ∈ come ∧ st.state = .waiting ∧ x.holdPending = false ∧
      (c.concurrence = false ∨ x.concGiven ≠ none) ∧ s.motion st.valve = .openWait ∧
      ∃ m, s.mover st.valve = some m ∧ m.dir = .opening
    let shut (v : Nat) : Prop := ∃ y, s.valve? v = some y ∧ y.vol.closedRun = 2
    ∃ u : State, exec .computationEnd s = .next u.finish ∧ u.kept = s.kept ∧
      if 48 < merged.length then
        (u.inc c.slot).state = .planFailed ∧ (u.inc c.slot).plan = x.plan ∧
          (u.inc c.slot).failure = some
            { reason := .stepLimit, zoneCount := some c.zone.length, stepCount := some merged.length, excl := [] } ∧
          (u.inc c.slot).flags &&& IncFlag.planFailed.bit ≠ 0 ∧ u.valves = s.valves
      else
        (u.inc c.slot).stepValves = merged.map (·.valve) ∧ (u.inc c.slot).zoneList = c.zone ∧
          (u.inc c.slot).effPrio = c.prio ∧ (u.inc c.slot).concRequired = c.concurrence ∧
          (u.inc c.slot).concGiven = x.concGiven ∧ (u.inc c.slot).excl = x.excl ∧ (u.inc c.slot).holdPending = false ∧
          (u.inc c.slot).flags &&& IncFlag.planned.bit ≠ 0 ∧
          (∀ st ∈ x.steps, stays st = none → st.valve ∉ merged.map (·.valve) →
            c.slot ∉ u.holds st.valve ∧
              Stopped.mk st.valve (.step c.slot c.tag) ∉ (u.zone (s.zoneOf st.valve)).stopped) ∧
          (∀ n ∈ come, s.valve? n.valve ≠ none → c.slot ∈ u.holds n.valve) ∧
          ((∀ st ∈ merged, ∀ m, s.mover st.valve = some m → m.dir = .closing) →
            (u.inc c.slot).plan = some { p with steps := (u.inc c.slot).steps } ∧ waves (u.inc c.slot) merged) ∧
          (s.incidentsSound → (∀ v ∈ x.stepValves, s.valve? v ≠ none → c.slot ∈ s.holds v) →
            (∀ l j m, s.motionAt l j = some m → m.dir = .opening → m.owner ≠ .step c.slot c.tag) →
            ∃ held : List Step, held.length = merged.length ∧
              (∀ (k : Nat) (st : Step), merged[k]? = some st → ∃ z, held[k]? = some z ∧
                (¬ reversed st → z = st) ∧ (reversed st → shut st.valve → z = { st with state := .closed }) ∧
                (reversed st → ¬ shut st.valve → z = { st with state := .moving })) ∧
              (u.inc c.slot).plan = some { p with steps := (u.inc c.slot).steps } ∧ waves (u.inc c.slot) held) ∧
          (u.inc c.slot).state =
            if x.holdPending = true then .held
            else if c.concurrence = true ∧ x.concGiven = none then .awaitingConcurrence
            else .closing

/-! ## Valve lines -/

/-- A reply that does not answer the transaction in flight, or is not valid (R24), changes nothing. That
one which no transaction awaits changes nothing is the model's choice (log 7). -/
def Obligations.RepliesThatAnswerNothingAreDiscarded : Prop :=
  ∀ (s : State) (l : Fin 4) (a p r q : Nat) (b : Byte),
    ((∀ t, (s.line l).txn = some t → t.addr ≠ a ∨ t.kind ≠ .query ∨ t.gone = true) ∨ s.valveAt l a = none ∨
        (∃ e, s.valveAt l a = some e ∧ (e.2.st.turns < p ∨ (b.getLsbD 0 = true ∧ b.getLsbD 1 = true))) →
      exec (.report l a p b) s = .next s) ∧
    ((∀ t, (s.line l).txn = some t → t.addr ≠ a ∨ t.kind ≠ .move ∨ t.gone = true) ∨ 2 < r →
      exec (.moveReply l a r) s = .next s) ∧
    ((∀ t, (s.line l).txn = some t → t.addr ≠ a ∨ t.kind ≠ .stop ∨ t.gone = true) ∨ r ≠ 0 →
      exec (.stopReply l a r) s = .next s) ∧
    ((∀ t, (s.line l).txn = some t → t.addr ≠ a ∨ t.kind ≠ .sample ∨ t.gone = true) ∨ 2500 < p ∨ 1 < q →
      exec (.sampleReply l a p q) s = .next s)

/-- REPORT, the valid reply to a QUERY, in RUNNING: reported position, agreement count, accepted position and FRESH status where
two agree, the three runs, and the motion state by torque trip and LOCAL bit; the node's miss count is cleared. What it does to
the motion that holds a slot for the valve: reached closed completes a closing, also while it is stopped, and reached open an
opening; reached target takes a run phase to its wait and a crack phase to the run; came to rest ends a stop by its kind, a
guard stop returning to its wait, a reversal handing the slot on; a fault fails the motion. The step and its SHADOWs are told,
the slot, the allowance and the request go with the motion. The valve of a completed release is no orphan; how long that lasts
is the model's choice (log 41). A report that brings none of these leaves motions, zones and incidents. A report for a valve without a mover moves no motion. Where it changes the accepted position from 0, every incident
that holds the valve with a BOUNDARY step CLOSED or SKIPPED, in a state where a drift acts, has that step FAILED, the valve on
its exclusion list and STEP_FAILED raised, and replans; HELD from CLOSING its replan is due; without room on the list it is
PLAN_FAILED. No other incident changes. That a closing both shut and at rest by one report is CLOSED rests on the order of its
events (log 31), that a fault is handed alone and ends an awaited rest on log 32; the first plan told by its kind, which takes
no drift, on logs 16 and 17, and what PLAN_FAILED clears on log 18. -/
def Obligations.ReportIsTakenIntoTheChain : Prop :=
  (∀ (s : State) (l : Fin 4) (a p : Nat) (b : Byte) (v : Nat) (x : Valve) (t : Txn) (n : Node),
    s.device = .running → s.valveAt l a = some (v, x) → s.valve? v = some x → (s.line l).txn = some t → t.addr = a →
    t.kind = .query → t.gone = false → (s.line l).node? a = some n → p ≤ x.st.turns →
    (b.getLsbD 0 = false ∨ b.getLsbD 1 = false) →
    let agreement := match x.vol.lastReport with
      | some q => if q.position = p then min 255 (x.vol.agreement + 1) else 1
      | none => 1
    ∃ (u : State) (y : Valve), exec (.report l a p b) s = .next u.finish ∧ u.valve? v = some y ∧ y.st = x.st ∧
      y.vol.reported = some p ∧ y.vol.lastReport = some { position := p, status := b } ∧ y.vol.agreement = agreement ∧
      y.vol.accepted = (if 2 ≤ agreement then some p else x.vol.accepted) ∧
      y.vol.status = (if 2 ≤ agreement then .fresh else x.vol.status) ∧
      y.vol.closedRun = (if b.getLsbD 0 = true ∨ p = 0 then min 2 (x.vol.closedRun + 1) else 0) ∧
      y.vol.openRun = (if b.getLsbD 1 = true ∨ p = x.st.turns then min 2 (x.vol.openRun + 1) else 0) ∧
      y.vol.targetRun = (if b.getLsbD 4 = false ∧ x.vol.target = some p then min 2 (x.vol.targetRun + 1) else 0) ∧
      y.vol.target = x.vol.target ∧ y.vol.awaitRest = (x.vol.awaitRest && b.getLsbD 4) ∧
      (s.moverAt v = none → y.vol.released = (x.vol.released && decide (agreement < 2))) ∧
      (b.getLsbD 3 = true → y.vol.motion = .stuck) ∧
      (b.getLsbD 3 = false → b.getLsbD 2 = true → x.vol.motion ≠ .stuck → y.vol.motion = .localMode) ∧
      (b.getLsbD 3 = false → b.getLsbD 2 = false → x.vol.motion = .localMode ∨ x.vol.motion = .unresponsive →
        y.vol.motion = .atRest) ∧
      (u.line l).node? a = some { misses := 0, lastValid := some (s.line l).round } ∧ (u.line l).txn = none ∧
      (u.line l).furtherDue = t.visit ∧
      u.finish.kept = { s.kept with positions := u.positions, polls := u.kept.polls }) ∧
  (∀ (s : State) (l j : Fin 4) (a p : Nat) (b : Byte) (v : Nat) (x : Valve) (t : Txn) (m : Motion),
    s.device = .running → s.valveAt l a = some (v, x) → s.valve? v = some x → (s.line l).txn = some t → t.addr = a →
    t.kind = .query → t.gone = false → p ≤ x.st.turns →
    (b.getLsbD 0 = false ∨ b.getLsbD 1 = false) → s.moverAt v = some (l, j, m) →
    (∀ j' m', s.motionAt l j' = some m' → m'.valve = v → j' = j) →
    let shut := x.vol.closedRun = 1 ∧ (b.getLsbD 0 = true ∨ p = 0)
    let wide := x.vol.openRun = 1 ∧ (b.getLsbD 1 = true ∨ p = x.st.turns)
    let onTarget := x.vol.targetRun = 1 ∧ b.getLsbD 4 = false ∧ x.vol.target = some p
    let rest := x.vol.awaitRest = true ∧ b.getLsbD 4 = false
    let sound := b.getLsbD 3 = false ∧ b.getLsbD 2 = false
    ∃ (u : State) (y : Valve), exec (.report l a p b) s = .next u.finish ∧ u.valve? v = some y ∧
      let zone := u.zone (s.zoneOf v)
      let ended := u.motionAt l j = none ∧ v ∉ zone.holders ∧ v ∉ zone.requests
      let unlisted := Stopped.mk v m.owner ∉ zone.stopped
      let told (i : Fin 16) (want : StepState) (c : Option FailCause) :=
        ∃ z, (u.inc i).stepFor v = some z ∧ z.state = want ∧ z.cause = c
      let owns (i : Fin 16) (tag : Nat) (st : Step) :=
        m.owner = .step i tag ∧ s.tenancy i tag = true ∧ (s.inc i).stepFor v = some st
      let rides (i : Fin 16) := ∃ tag st, s.tenancy i tag = true ∧ (s.inc i).stepFor v = some st ∧ st.state = .shadow ∧
        st.takenUp = false
      let waitsAgain (i : Fin 16) (tag : Nat) := told i .waiting none ∧ .restore i tag ∈ y.vol.waiting
      (sound → shut → m.dir = .closing → x.vol.motion ∈ [MotionState.closeRun, .closeWait, .closeSlow, .stopping] →
        ended ∧ unlisted ∧ y.vol.motion = .atRest ∧ (∀ n, m.owner = .release n → u.dispositionOf v y ≠ .orphan) ∧
          (∀ i tag st, owns i tag st → if st.takenUp = true then waitsAgain i tag else told i .closed none) ∧
          ∀ i, rides i → told i .closed none) ∧
      (sound → wide → m.dir = .opening → x.vol.motion ∈ [MotionState.openWait, .openSlow, .openRun] →
        ended ∧ unlisted ∧ y.vol.motion = .atRest ∧ (∀ n, m.owner = .release n → u.dispositionOf v y ≠ .orphan) ∧
          ∀ i tag st, owns i tag st → told i .reopened none) ∧
      (sound → onTarget → ¬ shut → x.vol.motion = .closeRun →
        u.motionAt l j = some { m with motionTimer := none } ∧ y.vol.motion = .closeWait ∧ v ∈ zone.requests) ∧
      (sound → onTarget → ¬ wide → x.vol.motion = .openSlow →
        u.motionAt l j = some { m with motionTimer := none } ∧ y.vol.motion = .openRun ∧ v ∉ zone.holders ∧
          (u.line l).queue = ((s.line l).hand v (.move x.st.turns x.st.maxSpeed .opening
            (motionTimeout (moveDistance y.vol.accepted x.st.turns x.st.turns) x.st.maxSpeed))).queue) ∧
      (sound → rest → ¬ (shut ∧ m.dir = .closing) → x.vol.motion = .stopping →
        (m.stop = some .guard →
          u.motionAt l j = some { m with stop := none, stopTimer := none } ∧
            y.vol.motion = (if m.dir = .closing then .closeWait else .openWait) ∧ v ∉ zone.holders ∧
            if Stopped.mk v m.owner ∈ (s.zone (s.zoneOf v)).stopped then zone.requests = (s.zone (s.zoneOf v)).requests
            else v ∈ zone.requests) ∧
        (∀ k, m.stop = some k → k ∈ [StopKind.hold, .restore, .abandon, .withdraw] →
          ended ∧ (k ≠ .hold → unlisted) ∧ y.vol.motion = .atRest ∧
            (k = .hold ∨ k = .restore → ∀ i tag st, owns i tag st →
              if st.takenUp = true then waitsAgain i tag else told i .waiting none) ∧
            (m.dir = .closing → ∀ i, rides i → told i .waiting none)) ∧
        (m.stop = some .reversal →
          let inherits (i : Fin 16) (tag : Nat) :=
            m.reversal = some (i, tag) ∧ s.tenancy i tag = true ∧ i ∈ s.holds v ∧ m.owner ≠ .step i tag ∧
              (∃ st, (s.inc i).stepFor v = some st ∧ st.state = .waiting) ∧
              ((s.inc i).state = .closing ∨ ((s.inc i).state = .replanning ∧ (s.inc i).holdPending = false)) ∧
              ((s.inc i).concRequired = false ∨ (s.inc i).concGiven ≠ none)
          unlisted ∧ (∀ i tag st, owns i tag st → told i .retained none) ∧
            ((∀ i tag, ¬ inherits i tag) → ended ∧ y.vol.motion = .atRest) ∧
            ∀ i tag, inherits i tag → y.vol.closedRun ≠ 2 →
              (∃ w, u.motionAt l j = some w ∧ w.owner = .step i tag ∧ w.valve = v ∧ w.dir = .closing ∧ w.stop = none) ∧
                told i .moving none ∧
                if slowBoundary x.st.turns < y.vol.accepted.getD x.st.turns then y.vol.motion = .closeRun
                else y.vol.motion = .closeWait ∧ v ∈ zone.requests)) ∧
      (sound → ¬ shut → ¬ wide → ¬ onTarget → ¬ rest →
        (∀ l' j', u.motionAt l' j' = s.motionAt l' j') ∧ u.zones = s.zones ∧ u.incidents = s.incidents) ∧
      ∀ c, (b.getLsbD 3 = true ∧ x.vol.motion ≠ .stuck ∧ c = FailCause.stuck) ∨
          (b.getLsbD 3 = false ∧ b.getLsbD 2 = true ∧ x.vol.motion ≠ .stuck ∧ x.vol.motion ≠ .localMode ∧
            c = FailCause.localMode) →
        ended ∧ unlisted ∧ (∀ i tag st, owns i tag st → told i .failed (some c)) ∧
          (m.dir = .closing → ∀ i, rides i → told i .failed (some c))) ∧
  ∀ (s : State) (l : Fin 4) (a p : Nat) (b : Byte) (v : Nat) (x : Valve) (t : Txn),
    s.device = .running → s.valveAt l a = some (v, x) → s.valve? v = some x → (s.line l).txn = some t → t.addr = a →
    t.kind = .query → t.gone = false → p ≤ x.st.turns → (b.getLsbD 0 = false ∨ b.getLsbD 1 = false) →
    s.moverAt v = none →
    let agrees := 1 ≤ x.vol.agreement ∧ ∃ q, x.vol.lastReport = some q ∧ q.position = p
    let drifts (i : Fin 16) := i ∈ s.holds v ∧
      (∃ st, (s.inc i).stepFor v = some st ∧ st.role = .boundary ∧ (st.state = .closed ∨ st.state = .skipped)) ∧
      ((s.inc i).state ∈ [IncState.closing, .replanning, .isolated, .confirmed, .leakThrough] ∨
        ((s.inc i).state = .held ∧ (s.inc i).heldFrom = some .closing) ∨
        ((s.inc i).state = .awaitingConcurrence ∧ (s.inc i).firstPlan = false))
    ∃ u : State, exec (.report l a p b) s = .next u.finish ∧ (∀ l' j, u.motionAt l' j = s.motionAt l' j) ∧
      u.zones = s.zones ∧ (¬ (x.vol.accepted = some 0 ∧ agrees ∧ p ≠ 0) → u.incidents = s.incidents) ∧
      (x.vol.accepted = some 0 → agrees → p ≠ 0 → ∀ i,
        let old := s.inc i
        let hit := old.modSteps fun l =>
          l.map fun st => if st.valve = v then { st with state := StepState.failed, cause := none } else st
        let listed := if v ∈ old.excl then old.excl else old.excl ++ [v]
        (¬ drifts i → u.inc i = old) ∧
        (drifts i → v ∉ old.excl → 16 ≤ old.excl.length →
          u.inc i = { hit with
            state := .planFailed
            failure := some { reason := .exclusionsFull, zoneCount := none, stepCount := none, excl := old.excl }
            holdPending := false
            current := none
            staged := none
            heldFrom := none
            replanDue := false
            watch := old.watch.cancel
            flags := old.flags ||| IncFlag.stepFailed.bit ||| IncFlag.planFailed.bit }) ∧
        (drifts i → v ∈ old.excl ∨ old.excl.length < 16 →
          (old.state = .held →
            u.inc i = { hit with
              excl := listed, replanDue := true, flags := old.flags ||| IncFlag.stepFailed.bit }) ∧
          (old.state = .replanning →
            u.inc i = { hit with excl := listed, flags := old.flags ||| IncFlag.stepFailed.bit }) ∧
          (old.state ≠ .held → old.state ≠ .replanning →
            u.inc i = { hit with
              excl := listed
              state := .replanning
              staged := none
              watch := old.watch.cancel
              flags := old.flags ||| IncFlag.stepFailed.bit }) ∧
          (old.state ≠ .held → i ∈ u.planner.queue ∨ ∃ c, u.planner.comp = some c ∧ c.slot = i)))

/-- MOVE_REPLY to the MOVE at the head of the queue: accepted, the entry leaves, the target is set and the motion timer starts in
a moving phase; refused, the target is cleared and the valve is LOCAL or STUCK and its motion has ended.
STOP_REPLY to the STOP at the head of the queue: the entry leaves, a rest report is awaited, and the stop timer of 20 s
starts for a motion in STOPPING. -/
def Obligations.CommandRepliesGiveTheOutcomeOfTheHead : Prop :=
  (∀ (s : State) (l : Fin 4) (a r target speed timeout : Nat) (d : Dir) (rest : List Entry) (v : Nat) (x : Valve) (t : Txn),
    (s.line l).txn = some t → t.addr = a → t.kind = .move → t.gone = false → t.visit = false →
    (s.line l).queue = { valve := v, cmd := .move target speed d timeout, next := none } :: rest → (s.line l).kept = [] →
    s.valve? v = some x → r ≤ 2 →
    ∃ (u : State) (y : Valve), exec (.moveReply l a r) s = .next u.finish ∧ u.valve? v = some y ∧ y.st = x.st ∧
      (u.line l).txn = none ∧ (u.line l).furtherDue = false ∧
      (r = 0 →
        (u.line l).queue = rest ∧
        y.vol = { x.vol with
          target := some target
          targetRun := 0
          awaitRest := false
          motion := if x.vol.motion = .unresponsive then .atRest else x.vol.motion } ∧
        (∀ l' j m, s.moverAt v = some (l', j, m) → x.vol.motion ∈ [MotionState.closeRun, .closeSlow, .openSlow, .openRun] →
          u.motionAt l' j = some { m with motionTimer := some (s.now + timeout) }) ∧
        u.incidents = s.incidents ∧ u.zones = s.zones) ∧
      (r = 1 → y.vol.target = none ∧
        y.vol.motion = (if x.vol.motion = .stuck then MotionState.stuck else .localMode)) ∧
      (r = 2 → y.vol.target = none ∧ y.vol.motion = .stuck) ∧
      (∀ l' j m, r ≠ 0 → x.vol.motion ∈ [MotionState.closeRun, .closeSlow, .openSlow, .openRun] →
        s.moverAt v = some (l', j, m) → u.motionAt l' j = none) ∧
      u.finish.kept = { s.kept with polls := u.kept.polls }) ∧
  (∀ (s : State) (l : Fin 4) (a : Nat) (rest : List Entry) (v : Nat) (x : Valve) (t : Txn),
    (s.line l).txn = some t → t.addr = a → t.kind = .stop → t.gone = false → t.visit = false →
    (s.line l).queue = { valve := v, cmd := .stop, next := none } :: rest → (s.line l).kept = [] → s.valve? v = some x →
    ∃ u : State, exec (.stopReply l a 0) s = .next u.finish ∧ (u.line l).txn = none ∧ (u.line l).queue = rest ∧
      u.valve? v = some { x with
        vol := { x.vol with
          target := none
          targetRun := 0
          awaitRest := true
          motion := if x.vol.motion = .unresponsive then .atRest else x.vol.motion } } ∧
      (∀ l' j m, s.moverAt v = some (l', j, m) → x.vol.motion = .stopping →
        u.motionAt l' j = some { m with stopTimer := some (s.now + 20000) }) ∧
      (∀ w, w ≠ v → u.valve? w = s.valve? w) ∧ u.incidents = s.incidents ∧ u.zones = s.zones ∧
      u.finish.kept = { s.kept with polls := u.kept.polls })

/-- SAMPLE_REPLY in RUNNING: a GOOD sample joins the point's ring of sixteen with its round, makes it fresh and clears its BAD
count; a BAD one is counted and the ring kept. The surge guard of the zone trips, counts or clears by the sample: a trip lists
every motion in a slow phase, hands its STOP, makes it STOPPING and raises SURGE_EVENT for its incident; a clearing halves the
slow speed of each listed motion, empties the list, and those in a wait state ask for the allowance again; a GOOD sample of
another point than the tripping one leaves a GUARDED zone and every motion as they are. An ISOLATED incident whose watch runs
and whose zone has the point's segment is CONFIRMED when every fresh point of its zone reads drained; no other watch changes. -/
def Obligations.SampleReplyIsStoredAndOfferedToTheGuard : Prop :=
  ∀ (s : State) (l : Fin 4) (a pressure q : Nat) (k : Nat) (p : Point) (t : Txn),
    s.device = .running → s.pointAt l a = some (k, p) → s.point? k = some p → (s.line l).txn = some t → t.addr = a →
    t.kind = .sample → t.gone = false → pressure ≤ 2500 → q ≤ 1 →
    let seg := s.segOf p.asg.seg
    let z := s.zone seg.zone
    ∃ (u : State) (y : Point), exec (.sampleReply l a pressure q) s = .next u.finish ∧ u.point? k = some y ∧
      y.asg = p.asg ∧ (u.line l).txn = none ∧
      (q = 0 → y.fresh = true ∧ y.bad = 0 ∧
        y.ring = (p.ring.drop (p.ring.length + 1 - 16)) ++ [{ pressure := pressure, round := (s.line l).round }]) ∧
      (q = 1 → y.ring = p.ring ∧ y.bad = min 255 (p.bad + 1) ∧ (y.fresh = true → p.fresh = true)) ∧
      (q = 1 → u.zones = s.zones ∧ u.incidents = s.incidents) ∧
      (q = 0 → z.guard = .clear → seg.rating < pressure → s.slowMotions seg.zone ≠ [] →
        let slow (l' j : Fin 4) (m : Motion) := s.motionAt l' j = some m ∧ s.zoneOf m.valve = seg.zone ∧
          (s.motion m.valve = .closeSlow ∨ s.motion m.valve = .openSlow)
        (u.zone seg.zone).guard = .guarded ∧ (u.zone seg.zone).tripping = some k ∧ (u.zone seg.zone).clearCount = 0 ∧
          (∀ e, e ∈ (u.zone seg.zone).stopped ↔ ∃ l' j m, slow l' j m ∧ e = ⟨m.valve, m.owner⟩) ∧
          (∀ l' j m, slow l' j m → (s.line l').state ≠ .stopped →
            (∀ l₂ j₂ m₂, s.motionAt l₂ j₂ = some m₂ → m₂.valve = m.valve → l₂ = l' ∧ j₂ = j) →
            u.motionAt l' j = some { m with stop := some .guard, motionTimer := none } ∧ u.motion m.valve = .stopping ∧
              ∃ e ∈ (u.line l').queue ++ (u.line l').kept, e.valve = m.valve ∧ (e.cmd = .stop ∨ e.next = some .stop)) ∧
          ∀ i,
            let owns := ∃ l' j m tag, slow l' j m ∧ m.owner = .step i tag ∧ s.tenancy i tag = true
            (owns → (u.inc i).flags &&& IncFlag.surgeEvent.bit ≠ 0) ∧
              (¬ owns →
                (u.inc i).flags &&& IncFlag.surgeEvent.bit = (s.inc i).flags &&& IncFlag.surgeEvent.bit)) ∧
      (q = 0 → z.guard = .clear → pressure ≤ seg.rating ∨ s.slowMotions seg.zone = [] → u.zones = s.zones) ∧
      (q = 0 → z.guard = .guarded → z.tripping ≠ some k →
        u.zones = s.zones ∧ (∀ l' j, u.motionAt l' j = s.motionAt l' j) ∧ ∀ v, u.motion v = s.motion v) ∧
      (q = 0 → z.guard = .guarded → z.tripping = some k →
        if seg.rating * 9 / 10 < pressure then (u.zone seg.zone).guard = .guarded ∧ (u.zone seg.zone).clearCount = 0
        else if z.clearCount < 2 then
          (u.zone seg.zone).guard = .guarded ∧ (u.zone seg.zone).clearCount = z.clearCount + 1
        else
          (u.zone seg.zone).guard = .clear ∧ (u.zone seg.zone).tripping = none ∧ (u.zone seg.zone).clearCount = 0 ∧
            (u.zone seg.zone).stopped = [] ∧
            (z.stopped.Nodup → ∀ e ∈ z.stopped, ∀ w, s.valve? e.valve = some w →
              (∀ i tag st, e.owner = .step i tag → s.tenancy i tag = true → (s.inc i).stepFor e.valve = some st →
                (u.inc i).stepFor e.valve = some { st with figures := halve w.st st.figures }) ∧
              (∀ l' j m f, (∀ i tag, e.owner ≠ .step i tag) → s.moverAt e.valve = some (l', j, m) → m.owner = e.owner →
                m.figures = some f → u.motionAt l' j = some { m with figures := some (halve w.st f) }) ∧
              ((s.motion e.valve = .closeWait ∨ s.motion e.valve = .openWait) →
                (s.mover e.valve).map (·.owner) = some e.owner →
                e.valve ∈ (u.zone (s.zoneOf e.valve)).requests))) ∧
      (q = 0 → ∀ i,
        let a := s.modPoint k fun p =>
          { p with
            ring := p.ring.drop (p.ring.length + 1 - 16) ++ [{ pressure := pressure, round := (s.line l).round }]
            fresh := true
            bad := 0 }
        if (s.inc i).watch ≠ .idle ∧ (s.inc i).watch ≠ .ended ∧ (s.inc i).state = .isolated ∧ p.asg.seg ∈ (s.inc i).zoneList ∧
            ∀ o ∈ a.freshPoints i, a.readsDrained o = true then
          (u.inc i).state = .confirmed ∧ (u.inc i).watch = .ended ∧ (u.inc i).flags &&& IncFlag.confirmed.bit ≠ 0 ∧
            ∀ g, (s.port g).incMask &&& IncFlag.confirmed.bit ≠ 0 →
              ((u.port g).copies.get i).tag = (s.inc i).tag ∧
                ((u.port g).copies.get i).pending &&& IncFlag.confirmed.bit ≠ 0
        else (u.inc i).state = (s.inc i).state ∧ (u.inc i).watch = (s.inc i).watch) ∧
      u.finish.kept = { s.kept with samples := u.samples, polls := u.kept.polls }

/-- MISS in RUNNING: the node's miss count rises; the third makes an actuator that is neither STUCK nor UNRESPONSIVE
UNRESPONSIVE: chain broken, FRESH lapsed, releases withdrawn, queued commands gone, its motion ended. A STUCK valve whose count
stands at 3 or more loses its queue entries, and nothing is handed to the motion executor. A transaction whose node has gone
counts for nothing, and without a transaction nothing happens. That a miss without a transaction does nothing is log 7, and that
one of a gone node counts for nothing is log 19. That a command kept because the queue was full goes with the valve's entries is
log 33, and that a further transaction is due after a visit whose node has gone log 35. -/
def Obligations.MissIsCountedAndTheThirdMakesUnresponsive : Prop :=
  ∀ (s : State) (l : Fin 4), ((s.line l).txn = none → exec (.miss l) s = .next s) ∧
    ∀ t, (s.line l).txn = some t → s.device = .running →
      ∃ u : State, exec (.miss l) s = .next u.finish ∧ (u.line l).txn = none ∧ (u.line l).furtherDue = t.visit ∧
        (t.gone = true → (u.line l).nodes = (s.line l).nodes ∧ (u.line l).queue = (s.line l).queue) ∧
        (∀ n, t.gone = false → (s.line l).node? t.addr = some n →
          (u.line l).node? t.addr = some { misses := min 255 (n.misses + 1), lastValid := n.lastValid } ∧
          (∀ b, b ≠ t.addr → (u.line l).node? b = (s.line l).node? b) ∧
          (t.kind = .sample ∨ n.misses < 2 → u.incidents = s.incidents ∧ u.zones = s.zones ∧
            ∀ v x, s.valve? v = some x →
              ∃ y, u.valve? v = some y ∧ y.st = x.st ∧ (y.vol = x.vol ∨ y.vol = x.vol.lapse)) ∧
          (∀ v x, t.kind ≠ .sample → 2 ≤ n.misses → s.valveAt l t.addr = some (v, x) → x.vol.motion = .stuck →
            (u.line l).queue.map (·.valve) = ((s.line l).queue.map (·.valve)).filter (· ≠ v) ∧
            (t.kind = .query → (u.line l).queue = (s.line l).queue.filter (·.valve ≠ v)) ∧
            (u.line l).kept = (s.line l).kept.filter (·.valve ≠ v) ∧ (∀ l' j, u.motionAt l' j = s.motionAt l' j) ∧
            u.incidents = s.incidents ∧ u.zones = s.zones ∧
            ∀ w y, s.valve? w = some y →
              ∃ y', u.valve? w = some y' ∧ y'.st = y.st ∧ (y'.vol = y.vol ∨ y'.vol = y.vol.lapse)) ∧
          ∀ v x, t.kind ≠ .sample → 2 ≤ n.misses → s.valveAt l t.addr = some (v, x) → s.valve? v = some x →
            x.vol.motion ≠ .unresponsive → x.vol.motion ≠ .stuck →
            u.valve? v = some { x with
              vol := { x.vol.breakChain.lapse with
                motion := .unresponsive
                waiting := x.vol.waiting.filter (!·.isRelease) } } ∧
            (∀ e ∈ (u.line l).queue, e.valve ≠ v) ∧
            ∀ l' j m, s.moverAt v = some (l', j, m) → u.motionAt l' j = none) ∧
        u.finish.kept = { s.kept with polls := u.kept.polls }

/-- A motion timer or a stop timer that expires: the timebase stands at its instant, the valve is STUCK with its releases
withdrawn, the motion has left its slot and failed, a motion timer's expiry having handed a STOP. The expiry of a timer that
does not run changes nothing. That it changes
nothing is the model's choice (log 7), and so is the instant of an expiry (log 10). -/
def Obligations.MotionTimersMakeTheValveStuck : Prop :=
  ∀ (s : State) (l j : Fin 4),
    ((∀ m, s.motionAt l j = some m → m.motionTimer = none) → exec (.motionTimerExpiry l j) s = .next s) ∧
    ((∀ m, s.motionAt l j = some m → m.stopTimer = none) → exec (.stopTimerExpiry l j) s = .next s) ∧
    ∀ m x, s.motionAt l j = some m → s.valve? m.valve = some x →
      ∀ (i : Instr) (e : Nat) (handed : Line) (cause : FailCause),
        ((i = .motionTimerExpiry l j ∧ m.motionTimer = some e ∧ handed = (s.line l).hand m.valve .stop ∧
            cause = .timeout) ∨
          (i = .stopTimerExpiry l j ∧ m.stopTimer = some e ∧ handed = s.line l ∧ cause = .stopTimeout)) →
        ∃ u : State, exec i s = .next u.finish ∧ u.motionAt l j = none ∧
          u.valve? m.valve = some { x with
            vol := { x.vol with motion := .stuck, waiting := x.vol.waiting.filter (!·.isRelease) } } ∧
          (u.line l).queue = (handed.dropMoves m.valve Cmd.isMove).queue ∧
          (∀ l' j', (l', j') ≠ (l, j) → u.motionAt l' j' = s.motionAt l' j') ∧
          (∀ w, w ≠ m.valve → u.valve? w = s.valve? w) ∧
          (∀ k tag st, m.owner = .step k tag → s.tenancy k tag = true → (s.inc k).stepFor m.valve = some st →
            st.takenUp = false →
            ∃ st', (u.inc k).stepFor m.valve = some st' ∧ st'.state = .failed ∧ st'.cause = some cause) ∧
          u.finish.kept = { s.kept with now := max s.now e }

/-- The confirmation timer of an incident expires: the watch has ended and, with no fresh point in the zone UNMONITORED is
raised in its state, with every fresh point drained it is CONFIRMED, else LEAK_THROUGH; no other incident, valve or line
changes. The expiry of a watch that does not run changes nothing. That it changes nothing is the model's choice (log 7), and so
is the instant of an expiry (log 10). An incident that is isolated (R138, R139): every BOUNDARY step CLOSED or SKIPPED and no
INTERIOR step MOVING or SHADOW, it enters ISOLATED without waves, raises ISOLATED, and its watch runs for the confirmation
window of the burst segment's zone, or with no point in its zone has ENDED with UNMONITORED raised; nothing else changes. While
an incident in CLOSING is isolated so, something is due. -/
def Obligations.ConfirmationTimerDecidesTheWatch : Prop :=
  (∀ (s : State) (k : Fin 16),
    ((∀ e, (s.inc k).watch ≠ .running e) → exec (.confirmationTimerExpiry k) s = .next s) ∧
    ∀ e, (s.inc k).watch = .running e →
      let out : IncState × IncFlag :=
        if s.freshPoints k = [] then ((s.inc k).state, .unmonitored)
        else if ∀ p ∈ s.freshPoints k, s.readsDrained p = true then (.confirmed, .confirmed)
        else (.leakThrough, .leakThrough)
      ∃ t : State, exec (.confirmationTimerExpiry k) s = .next t ∧
        t.inc k = { s.inc k with state := out.1, watch := .ended, flags := (s.inc k).flags ||| out.2.bit } ∧
        (∀ j, j ≠ k → t.inc j = s.inc j) ∧
        (∀ l, (s.port l).incMask &&& out.2.bit ≠ 0 →
          ((t.port l).copies.get k).tag = (s.inc k).tag ∧ ((t.port l).copies.get k).pending &&& out.2.bit ≠ 0) ∧
        { t with now := s.now, incidents := s.incidents, portA := s.portA, portB := s.portB, portS := s.portS } = s ∧
        t.kept = { s.kept with now := max s.now e }) ∧
  (∀ s t : State, s.isolate? = some t →
    ∃ i : Fin 16, (s.inc i).state = .closing ∧
      (∀ st ∈ (s.inc i).steps,
        if st.role = .boundary then st.state = .closed ∨ st.state = .skipped
        else st.state ≠ .moving ∧ st.state ≠ .shadow) ∧
      (t.inc i).state = .isolated ∧ (t.inc i).current = none ∧ (t.inc i).staged = none ∧
      (t.inc i).plan = (s.inc i).plan ∧
      (∀ l, (s.port l).incMask &&& IncFlag.isolated.bit ≠ 0 →
        ((t.port l).copies.get i).tag = (s.inc i).tag ∧
          ((t.port l).copies.get i).pending &&& IncFlag.isolated.bit ≠ 0) ∧
      (if ∃ e ∈ s.points, e.2.asg.seg ∈ (s.inc i).zoneList then
        (t.inc i).flags = (s.inc i).flags ||| IncFlag.isolated.bit ∧
          ∀ n x, (s.inc i).burst = some n → s.seg? n = some x →
            (t.inc i).watch = .running (s.now + (s.zone x.zone).record.window * 1000)
      else
        (t.inc i).watch = .ended ∧
          (t.inc i).flags = (s.inc i).flags ||| IncFlag.isolated.bit ||| IncFlag.unmonitored.bit ∧
          ∀ l, (s.port l).incMask &&& IncFlag.unmonitored.bit ≠ 0 →
            ((t.port l).copies.get i).tag = (s.inc i).tag ∧
              ((t.port l).copies.get i).pending &&& IncFlag.unmonitored.bit ≠ 0) ∧
      (∀ j, j ≠ i → t.inc j = s.inc j) ∧
      { t with incidents := s.incidents, portA := s.portA, portB := s.portB, portS := s.portS } = s ∧ t.kept = s.kept) ∧
  ∀ s : State, s.due? = none → ∀ i : Fin 16, (s.inc i).state = .closing →
    ∃ st ∈ (s.inc i).steps,
      if st.role = .boundary then st.state ≠ .closed ∧ st.state ≠ .skipped
      else st.state = .moving ∨ st.state = .shadow

/-! ## Links -/

/-- A frame with another marker, a length above 240 or a bad CRC-16 takes an IDLE receiver to DISCARDING and counts; so does a
short frame cut off by an idle gap count, the receiver standing at IDLE; while DISCARDING nothing counts, and a gap ends it.
A good frame of a kind that is not listed is answered UNKNOWN_REQUEST with its kind and tag and changes nothing else. -/
def Obligations.FramesThatAreNoRequestAreDiscardedOrRefused : Prop :=
  (∀ (s : State) (l : Link) (bad short : List Byte),
    (∃ m rest, bad = m :: rest ∧ m ≠ 0xA5) ∨ (∃ len rest, bad = 0xA5 :: len :: rest ∧ 240 < len.toNat) ∨
      (∃ len kind tag body crc, bad = 0xA5 :: len :: kind :: tag :: body ++ crc ∧ len.toNat ≤ 240 ∧
        body.length = len.toNat ∧ crc.length = 2 ∧
        crc ≠ numBytes 2 (crc16 (0xA5 :: len :: kind :: tag :: body)).toNat) →
    (short = [0xA5] ∨ ∃ len rest, short = 0xA5 :: len :: rest ∧ len.toNat ≤ 240 ∧ rest.length < len.toNat + 4) →
    let counted := min 65535 ((s.port l).errors + 1)
    ((s.port l).rx = .idle →
      exec (.discardedFrame l bad) s = .next (s.modPort l fun p => { p with rx := .discarding, errors := counted }) ∧
      exec (.idleGap l short) s = .next (s.modPort l fun p => { p with errors := counted }) ∧
      exec (.idleGap l []) s = .next s) ∧
    ((s.port l).rx = .discarding →
      exec (.discardedFrame l bad) s = .next s ∧
      exec (.idleGap l short) s = .next (s.modPort l fun p => { p with rx := .idle }) ∧
      exec (.idleGap l []) s = .next (s.modPort l fun p => { p with rx := .idle }))) ∧
  (∀ (s : State) (h : Hdr) (k : Nat), k = 0 ∨ 40 < k → (s.port h.link).takes → h.len ≤ 240 →
    exec (.unknownRequest h k) s = .next
      (s.modPort h.link (·.post { kind := k, tag := h.tag, outcome := .unknownRequest, items := [] })))

/-- When a frame has been sent, the oldest queued reply follows; with none and a notice pending, the notice of the flags and the
summary as they stand; else the transmitter is free. With nothing in transmission nothing happens. That is the model's choice
(log 7). So is that a reply leaves the queue as its transmission begins (log 6). -/
def Obligations.TransmissionEndSendsTheNextFrame : Prop :=
  ∀ (s : State) (l : Link),
    ((s.port l).sending = none → exec (.transmissionEnd l) s = .next s) ∧
    ((s.port l).sending ≠ none →
      (∀ r rest, (s.port l).replies = r :: rest →
        exec (.transmissionEnd l) s =
          .next (s.modPort l fun p => { p with sending := some (.reply r), replies := rest })) ∧
      ((s.port l).replies = [] → (s.port l).noticePending = true →
        exec (.transmissionEnd l) s = .next (s.modPort l fun p =>
          { p with sending := some (.notice p.device p.summary), noticePending := false })) ∧
      ((s.port l).replies = [] → (s.port l).noticePending = false →
        exec (.transmissionEnd l) s = .next (s.modPort l fun p => { p with sending := none })))

/-! ## Arithmetic, policy and grants -/

/-- R98: the reflection time of a side is the least whole number of ms not below 2,000 × length / celerity; T_r is the larger of
the sides', side A governs when they are equal or side B is EXTERNAL, and within the ranges of the record T_r lies between 2
and 26,667 ms; the governing side gives the celerity of the abrupt rise and the segment whose current pressure is taken. -/
def Obligations.ReflectionTimeIsTheLargerOfTheSides : Prop :=
  (∀ (a : Seg) (b : Option Seg), a.inRange → (∀ y, b = some y → y.inRange) →
    (∀ r, reflection a ≤ r ↔ 2000 * a.length ≤ r * a.celerity) ∧
    (b = none → governing a b = a ∧ reflectionTime a b = reflection a) ∧
    (∀ y, b = some y →
      reflectionTime a b = max (reflection a) (reflection y) ∧
        governing a b = if reflection y ≤ reflection a then a else y) ∧
    2 ≤ reflectionTime a b ∧ reflectionTime a b ≤ 26667) ∧
  ∀ (s : State) (st : ValveStatic) (burst : Option Nat) (cls : Machine.Class),
    let a := s.segOf st.sideA
    let b := st.sideB.map s.segOf
    s.segOf (s.governingSeg st) = governing a b ∧
      s.abruptRiseOf st burst =
        ceilDiv ((governing a b).celerity * velocityChange st.velocity (besideBurst st burst)) 1000 ∧
      s.timing st burst cls =
        fullTiming st a b (s.currentPressure (s.governingSeg st)).1 (besideBurst st burst) cls

/-- The full computation for a valve in range: the slow speed lies between min and max speed, and so does every halving of one
that does; without SURGE_RISK the slow phase takes at least T_req, and any faster speed allowed would not; the estimates are
the phase times of a full stroke; SLOW and GENTLE ask twice and four times the NORMAL time. -/
def Obligations.SlowSpeedLiesWithinTheValvesSpeeds : Prop :=
  ∀ (st : ValveStatic) (a : Seg) (b : Option Seg) (pressure : Nat) (atBurst : Bool) (cls : Machine.Class), st.inRange →
    a.inRange → (∀ y, b = some y → y.inRange) →
    let f := fullTiming st a b pressure atBurst cls
    let n := slowBoundary st.turns
    let rise := abruptRise (governing a b).celerity (velocityChange st.velocity atBurst)
    let treq := requiredTime (reflectionTime a b) rise (headroom (lowestRating a b) pressure).1 cls
    st.minSpeed ≤ f.slow ∧ f.slow ≤ st.maxSpeed ∧
      (f.surgeRisk = false → treq * f.slow ≤ n * 60000) ∧
      (f.slow < st.maxSpeed → f.surgeRisk = false → n * 60000 < treq * (f.slow + 1)) ∧
      (f.surgeRisk = true ↔
        lowestRating a b < pressure + 20 ∨ (0 < treq ∧ n * 60000 < treq * st.minSpeed)) ∧
      (∀ t, f.slowEst ≤ t ↔ n * 60000 ≤ t * f.slow) ∧
      (∀ t, f.runEst ≤ t ↔ (st.turns - n) * 60000 ≤ t * st.maxSpeed) ∧
      f.slowEst ≤ 90000000 ∧ f.runEst ≤ 90000000 ∧ treq ≤ 29867040 ∧
      requiredTime (reflectionTime a b) rise (headroom (lowestRating a b) pressure).1 .slow =
        2 * requiredTime (reflectionTime a b) rise (headroom (lowestRating a b) pressure).1 .normal ∧
      requiredTime (reflectionTime a b) rise (headroom (lowestRating a b) pressure).1 .gentle =
        4 * requiredTime (reflectionTime a b) rise (headroom (lowestRating a b) pressure).1 .normal ∧
      ∀ g : Figures, st.minSpeed ≤ g.slow → g.slow ≤ st.maxSpeed →
        (halve st g).slow = max st.minSpeed (g.slow / 2) ∧ (halve st g).slow ≤ st.maxSpeed ∧
          (halve st g).surgeRisk = (g.surgeRisk || decide (g.slow / 2 < st.minSpeed)) ∧
          (halve st g).runEst = g.runEst ∧ ∀ t, (halve st g).slowEst ≤ t ↔ n * 60000 ≤ t * (halve st g).slow

/-- The winner of an evaluation is the matching group with the lowest lead rule, and the lowest group among those that share it;
with none the action is exclude no, NORMAL, concurrence no, KEEP. -/
def Obligations.WinnerHasTheLowestLeadRule : Prop :=
  ∀ (rules : Vector Rule 32) (groups : Vector Group 16) (stage : Stage) (value : Fin 15 → Nat),
    (∀ g, winner rules groups stage value = some g →
      groupMatches rules (groups.get g) stage value = true ∧
        action rules groups (some g) = rules.get (groups.get g).lead ∧
        ∀ k, groupMatches rules (groups.get k) stage value = true →
          (groups.get g).lead < (groups.get k).lead ∨ ((groups.get g).lead = (groups.get k).lead ∧ g ≤ k)) ∧
    (winner rules groups stage value = none → (∀ g, groupMatches rules (groups.get g) stage value = false) ∧
      (action rules groups none).exclude = false ∧ (action rules groups none).cls = .normal ∧
      (action rules groups none).concurrence = false ∧ (action rules groups none).mode = .keep) ∧
    ∀ g, groupMatches rules (groups.get g) stage value = true ↔
      (groups.get g).enabled = true ∧ groupStage rules (groups.get g).members = some stage ∧
        ∀ k ∈ (groups.get g).members, (rules.get k).isMatch (value (rules.get k).test) = true

/-- R119: the effective priority is the requested one under KEEP, the higher of it and the value under RAISE, the lower under
LOWER and the value under SET; it lies within 0 to 3 as both do; a computation records it in its plan from the requested one,
the motion executor orders an incident's work by it, and a release has priority 0. -/
def Obligations.EffectivePriorityFollowsThePriorityMode : Prop :=
  ∀ (r v : Nat), r ≤ 3 → v ≤ 3 →
    effectivePrio .keep v r = r ∧ effectivePrio .raise v r = max r v ∧ effectivePrio .lower v r = min r v ∧
      effectivePrio .set v r = v ∧ (∀ m, effectivePrio m v r ≤ 3) ∧ Rule.empty.mode = .keep ∧
      ∀ (s : State) (c : Comp) (steps : List Step),
        (let a := action s.rules s.groups (winner s.rules s.groups .plan (s.planTest c))
         ((s.planPolicy c).plan steps).prio = effectivePrio a.mode a.value (s.inc c.slot).reqPrio) ∧
        (∀ (i : Fin 16), ∀ w ∈ s.incidentWork i, w.prio = (s.inc i).effPrio) ∧ ∀ w ∈ s.releaseWork, w.prio = 0

/-- A line never puts a barred MOVE on the wire: the MOVE it sends is the one at the head of its queue, of a valve that is not
locked and, when it opens, that no incident holds. What a line with nodes and no transaction takes next: after a poll visit the
oldest queued command, else a fast QUERY to the motion in the first occupied slot after the rotation cursor, which then names that
slot, else, and after any other transaction, the poll visit at the cursor, a QUERY below address 200 and a SAMPLE from it on. A
barred MOVE at the head leaves instead: no transaction begins, the further one is still due, and a closing motion fails with LOCKED.
A line takes one only while it is RUNNING or STOPPING, and while it may, something is due. -/
def Obligations.BarredMovesAreNeverSent : Prop :=
  (∀ (s : State) (l : Fin 4) (t : Txn), (s.line l).txn = none → ((s.nextTxn l).line l).txn = some t → t.kind = .move →
    ∃ e rest target speed d timeout, (s.line l).queue = e :: rest ∧ e.cmd = .move target speed d timeout ∧
      t.addr = s.addrOf e.valve ∧ s.isLocked e.valve = false ∧ (d = .opening → s.holds e.valve = [])) ∧
  (∀ (s : State) (l : Fin 4), (s.line l).txn = none → (s.line l).nodes ≠ [] →
    let x := s.line l
    let t := s.nextTxn l
    let sends (a : Nat) (k : TxnKind) (visit : Bool) (y : Line) :=
      t = s.modLine l fun _ => { y with txn := some { addr := a, kind := k, visit := visit, gone := false } }
    let visits := ∀ a, x.cursor = some a ∨ (x.cursor = none ∧ tabFirst x.nodes = some a) →
      sends a (if a < 200 then .query else .sample) true { x with cursor := some a, furtherDue := false }
    let turn (j : Fin 4) := (j.val + 3 - x.rotation.val) % 4
    (x.furtherDue = false → visits) ∧
    (x.furtherDue = true → x.queue = [] → (∀ j, x.slots.get j = none) → visits) ∧
    (x.furtherDue = true → x.queue = [] → ∀ j m, x.slots.get j = some m → (∀ k, x.slots.get k ≠ none → turn j ≤ turn k) →
      sends (s.addrOf m.valve) .query false { x with rotation := j }) ∧
    (x.furtherDue = true → ∀ e rest, x.queue = e :: rest →
      (e.cmd = .stop → sends (s.addrOf e.valve) .stop false x) ∧
      ∀ target speed d timeout, e.cmd = .move target speed d timeout →
        let barred := s.isLocked e.valve = true ∨ (d = .opening ∧ s.holds e.valve ≠ [])
        (¬ barred → sends (s.addrOf e.valve) .move false x) ∧
        (barred → (t.line l).txn = none ∧ (t.line l).furtherDue = true ∧ (x.kept = [] → (t.line l).queue = rest) ∧
          (d = .opening → t.incidents = s.incidents ∧ ∀ k j, t.motionAt k j = s.motionAt k j) ∧
          (d = .closing → ∀ k j m, s.moverAt e.valve = some (k, j, m) → t.motionAt k j = none ∧
            ∀ i g st, m.owner = .step i g → s.tenancy i g = true → (s.inc i).stepFor e.valve = some st →
              ∃ z, (t.inc i).stepFor e.valve = some z ∧ z.state = .failed ∧ z.cause = some .locked)))) ∧
  (∀ s t : State, s.transact? = some t →
    ∃ l, (s.line l).state ≠ .stopped ∧ (s.line l).txn = none ∧ (s.line l).nodes ≠ [] ∧ t = s.nextTxn l) ∧
  ∀ s : State, s.due? = none → ∀ l, (s.line l).state ≠ .stopped → (s.line l).nodes ≠ [] → (s.line l).txn ≠ none

/-- The arbiters: a line's takes an item only while it is RUNNING with a free slot, an eligible one, under FIXED one of the
highest priority; a zone's grants the allowance only while its guard is CLEAR and its holders are fewer than its allowance. The
grant tests in order: a closing step is SHADOW of another closing, FAILED in a fault state or when its valve is locked and not
shut, CLOSED when shut and at rest, else it takes the lowest free slot and its closing begins; a restore step leaves the waiting
motions and is RETAINED when its valve is held, locked, normally CLOSED or open, FAILED in a fault state, else its opening
begins; a release begins its closing or opening, timed at this moment, with its target read from the record as it stands (log
36). Only a step that takes a slot moves the line's cursor (log 29). While an arbiter may grant, something is due: where nothing is,
a RUNNING line with a free slot has no eligible work, and a zone that is CLEAR with fewer holders than its allowance has no request of
a valve with a mover. The law of
R165 follows for every step: in each zone the valves in CLOSE_SLOW or OPEN_SLOW never exceed the allowance, and there are none
while it is GUARDED. -/
def Obligations.ArbitersGrantWithinTheirLimits : Prop :=
  (∀ s : State,
    (∀ (l : Fin 4) (w : Work), s.nextWork l = some w →
      (s.line l).state = .running ∧ (∃ j, (s.line l).slots.get j = none) ∧ w ∈ s.lineWork l ∧ s.eligible w = true ∧
        (s.grantMode = .fixed → ∀ x ∈ s.lineWork l, s.eligible x = true → x.prio ≤ w.prio)) ∧
    ∀ (z : Fin 8) (t : State), s.allowanceGrant? z = some t →
      (s.zone z).guard = .clear ∧ (s.zone z).holders.length < (s.zone z).record.allowance ∧ t.kept = s.kept ∧
        ∃ v ∈ (s.zone z).requests, s.hasMover v = true ∧
          (s.zoneOf v = z → v ∈ (t.zone z).holders ∧ v ∉ (t.zone z).requests ∧
            (t.motion v = .closeSlow ∨ t.motion v = .openSlow))) ∧
  (∀ s : State, s.due? = none →
    (∀ l, s.nextWork l = none) ∧
    (∀ l j, (s.line l).state = .running → (s.line l).slots.get j = none → ∀ w ∈ s.lineWork l, s.eligible w = false) ∧
    ∀ z, (s.zone z).guard = .clear → (s.zone z).holders.length < (s.zone z).record.allowance →
      ∀ v ∈ (s.zone z).requests, s.hasMover v = false) ∧
  (∀ (s : State) (l j : Fin 4) (w : Work) (x : Valve), s.nextWork l = some w → (s.line l).freeSlot = some j →
    s.valve? w.valve = some x →
    ∃ t : State, s.slotGrant? l = some t ∧ t.kept = s.kept ∧
      (∀ l' j', (l', j') ≠ (l, j) → t.motionAt l' j' = s.motionAt l' j') ∧
      let cause (c : FailCause) := (x.vol.motion = .stuck ∧ c = .stuck) ∨
        (x.vol.motion = .unresponsive ∧ c = .unresponsive) ∨ (x.vol.motion = .localMode ∧ c = .localMode)
      let sound := x.vol.motion ≠ .stuck ∧ x.vol.motion ≠ .unresponsive ∧ x.vol.motion ≠ .localMode
      let told (state : StepState) (c : Option FailCause) :=
        ∃ z, (t.inc w.slot).stepFor w.valve = some z ∧ z.state = state ∧ z.cause = c
      let takes (o : Owner) (d : Dir) (f : Option Figures) := t.motionAt l j = some
        { owner := o, valve := w.valve, dir := d, figures := f, motionTimer := none, stopTimer := none, stop := none
          reversal := none, stepNo := none }
      let asks := w.valve ∈ (t.zone (s.zoneOf w.valve)).requests
      let moves (target : Nat) (d : Dir) := (t.line l).queue = ((s.line l).hand w.valve (.move target x.st.maxSpeed d
        (motionTimeout (moveDistance x.vol.accepted x.st.turns target) x.st.maxSpeed))).queue
      let b := slowBoundary x.st.turns
      let closes := if b < x.vol.accepted.getD x.st.turns then t.motion w.valve = .closeRun ∧ moves b .closing
        else t.motion w.valve = .closeWait ∧ asks
      let opens := if x.vol.accepted.getD 0 < b then t.motion w.valve = .openWait ∧ asks
        else t.motion w.valve = .openRun ∧ moves x.st.turns .opening
      (w.kind = .close → ∀ g st, (s.inc w.slot).tag = some g → (s.inc w.slot).stepFor w.valve = some st →
        st.takenUp = false →
        let shadows := ∃ m, s.mover w.valve = some m ∧ m.dir = .closing ∧ m.owner ≠ .step w.slot g ∧
          x.vol.motion ∈ [MotionState.closeRun, .closeWait, .closeSlow]
        let locked := s.isLocked w.valve = true ∧ x.vol.closedRun ≠ 2
        let failed (c : FailCause) := told .failed (some c) ∧
          ((t.inc w.slot).state = .replanning ∨ (t.inc w.slot).state = .planFailed) ∧
          (t.inc w.slot).flags &&& IncFlag.stepFailed.bit ≠ 0 ∧ t.lines = s.lines
        (shadows → told .shadow none ∧ t.lines = s.lines) ∧
        (¬ shadows → (∀ c, cause c → failed c) ∧ (sound → locked → failed .locked) ∧
          (sound → x.vol.closedRun = 2 → x.vol.motion = .atRest → told .closed none ∧ t.lines = s.lines) ∧
          (sound → ¬ locked → ¬ (x.vol.closedRun = 2 ∧ x.vol.motion = .atRest) →
            told .moving none ∧ takes (.step w.slot g) .closing none ∧ (t.line l).arbiter = w.slot ∧ closes))) ∧
      (w.kind = .open_ → ∀ g st, (s.inc w.slot).tag = some g → (s.inc w.slot).stepFor w.valve = some st →
        st.takenUp = true →
        let retained := s.holds w.valve ≠ [] ∨ s.isLocked w.valve = true ∨ x.st.normal = .closed ∨
          x.vol.accepted = some x.st.turns
        (∀ y, t.valve? w.valve = some y → .restore w.slot g ∉ y.vol.waiting) ∧
        (retained → told .retained none ∧ t.lines = s.lines) ∧
        (¬ retained → (∀ c, cause c → told .failed (some c) ∧ (t.inc w.slot).flags &&& IncFlag.stepFailed.bit ≠ 0 ∧
            t.lines = s.lines) ∧
          (sound →
            told .moving none ∧ takes (.step w.slot g) .opening none ∧ (t.line l).arbiter = w.slot ∧ opens))) ∧
      (w.kind = .release →
        (∀ y, t.valve? w.valve = some y → .release w.arrival ∉ y.vol.waiting) ∧ t.incidents = s.incidents ∧
        (t.line l).arbiter = (s.line l).arbiter ∧
        (x.st.normal = .closed →
          takes (.release w.arrival) .closing (some (s.timing x.st none .normal)) ∧ closes) ∧
        (x.st.normal = .opened →
          takes (.release w.arrival) .opening (some (s.timing x.st none .normal)) ∧ opens))) ∧
    ∀ s t : State, s.modelSound → s.allowanceSound → step s = .next t → t.allowanceSound

/-! ## Whole-machine rules -/

/-- The frame of every well-formed request that fits a frame is read back as that request, with its link, tag and length; and the
frame of every line reply is read back as that reply. Where R184 leaves a
layout open, as for GRANT_MODE's slot and tag and ACK's flag word of one byte for DEVICE and two for any other target, it is the
model's choice (log 12). -/
def Obligations.FramesAreReadBackAsTheirCommands : Prop :=
  (∀ (i : Instr) (h : Hdr), i.hdr? = some h → i.wellFormed = true → h.len = i.bodyLen → i.bodyLen ≤ 240 →
    decodeRequest h.link i.frame = some i) ∧
  ∀ (i : Instr) (l : Fin 4) (bytes : List Byte), i.wellFormed = true → i.replyFrame = some bytes →
    (∀ j a p b, i = .report j a p b → j = l) → (∀ j a r, i = .moveReply j a r → j = l) →
    (∀ j a r, i = .stopReply j a r → j = l) → (∀ j a p q, i = .sampleReply j a p q → j = l) →
    decodeReply l bytes = some i

/-- Only the seven model edits, the two policy edits, MARK and RESET change what the store image holds; MARK changes nothing of it
but service marks, and the policy edits nothing but their tables. -/
def Obligations.OnlyEditsMarkAndResetChangeTheModel : Prop :=
  ∀ (i : Instr) (s t : State), exec i s = .next t →
    (isModelEdit i = false → i.code? ≠ some 20 → i.code? ≠ some 21 → i.code? ≠ some 26 → i ≠ .reset →
      t.image = s.image) ∧
    (i.code? = some 20 → (∀ h k, i ≠ .unknownRequest h k) → { t.image with rules := s.rules } = s.image) ∧
    (i.code? = some 21 → (∀ h k, i ≠ .unknownRequest h k) → { t.image with groups := s.groups } = s.image) ∧
    (i.code? = some 26 → (∀ h k, i ≠ .unknownRequest h k) → { t.image with valves := s.image.valves } = s.image ∧
      t.image.valves.map (fun e => (e.1, { e.2 with mark := .inService })) =
        s.image.valves.map fun e => (e.1, { e.2 with mark := .inService }))

/-- Every step keeps the network model, its stored image and every captured image sound: lists and sides agree, references name
defined records, addresses are distinct, fields lie in range. -/
def Obligations.EveryStepKeepsTheModelSound : Prop :=
  ∀ s t : State, s.modelSound → step s = .next t → t.modelSound

/-- Every step keeps the incident table sound (exclusion lists of at most 16 valves and plans of at most 48 steps, no valve
twice; hold sets of incidents in use that list the valve among their steps; bursts distinct), and only OPEN takes a FREE slot
into use. Every step, whatever else changes meanwhile, keeps the working sets of the computation in progress sound (R77 to R85): its
zone without repeats and at most 64 segments, every examined valve a step found or with its sides in the zone or on the district
edge, every valve of a zone segment examined once the search has ended, the open-edge count and valves those found, and the feeds
visited and what is visited gone through once the analysis has ended. -/
def Obligations.EveryStepKeepsTheIncidentsSound : Prop :=
  (∀ s t : State, s.incidentsSound → step s = .next t →
    t.incidentsSound ∧
      ∀ k : Fin 16, (s.inc k).state = .free → (t.inc k).state ≠ .free →
        ∃ h n p rest, s.pending = .openInc h n p :: rest) ∧
  ∀ s t : State, s.modelSound → s.incidentsSound → s.searchSound → step s = .next t → t.searchSound

/-- Every step keeps the queues within their bounds and the lock lists without repeats. -/
def Obligations.EveryStepKeepsTheQueuesAndLockListsSound : Prop :=
  (∀ s t : State, s.queuesSound → step s = .next t → t.queuesSound) ∧
    ∀ s t : State, s.lockListsSound → step s = .next t → t.lockListsSound
end

