-- ==== Sys2Proof/Laws/State.lean ====
section
/-! SUPPORT. One lemma per field per update of the state, each true by unfolding the update, so that no later proof unfolds a
record update. -/

namespace Sys2Proof.Machine

open Sys2Proof

theorem vget_set_self {α : Type} {n : Nat} (v : Vector α n) (i : Fin n) (a : α) : (v.set i a).get i = a := by
  show (v.set i a)[i.val] = a
  simp

theorem vget_set_of_ne {α : Type} {n : Nat} (v : Vector α n) (i k : Fin n) (a : α) (h : i ≠ k) :
    (v.set i a).get k = v.get k := by
  show (v.set i a)[k.val] = v[k.val]
  exact Vector.getElem_set_ne _ _ fun e => h (Fin.ext e)

theorem vget_map {α β : Type} {n : Nat} (v : Vector α n) (f : α → β) (i : Fin n) : (v.map f).get i = f (v.get i) := by
  show (v.map f)[i.val] = f v[i.val]
  simp

theorem vmap_set {α β : Type} {n : Nat} (v : Vector α n) (f : α → β) (i : Fin n) (a : α) (h : f a = f (v.get i)) :
    (v.set i a).map f = v.map f := by
  apply Vector.ext
  intro k hk
  simp only [Vector.getElem_map, Vector.getElem_set]
  split
  · subst_vars; exact h
  · rfl

/-! ### modSeg -/

@[simp] theorem State.modSeg_pending (s : State) (n : Nat) (f : Seg → Seg) : (s.modSeg n f).pending = s.pending := rfl
@[simp] theorem State.modSeg_now (s : State) (n : Nat) (f : Seg → Seg) : (s.modSeg n f).now = s.now := rfl
@[simp] theorem State.modSeg_device (s : State) (n : Nat) (f : Seg → Seg) : (s.modSeg n f).device = s.device := rfl
@[simp] theorem State.modSeg_segs (s : State) (n : Nat) (f : Seg → Seg) : (s.modSeg n f).segs = tabMod s.segs n f := rfl
@[simp] theorem State.modSeg_valves (s : State) (n : Nat) (f : Seg → Seg) : (s.modSeg n f).valves = s.valves := rfl
@[simp] theorem State.modSeg_zones (s : State) (n : Nat) (f : Seg → Seg) : (s.modSeg n f).zones = s.zones := rfl
@[simp] theorem State.modSeg_feeds (s : State) (n : Nat) (f : Seg → Seg) : (s.modSeg n f).feeds = s.feeds := rfl
@[simp] theorem State.modSeg_points (s : State) (n : Nat) (f : Seg → Seg) : (s.modSeg n f).points = s.points := rfl
@[simp] theorem State.modSeg_revision (s : State) (n : Nat) (f : Seg → Seg) : (s.modSeg n f).revision = s.revision := rfl
@[simp] theorem State.modSeg_rules (s : State) (n : Nat) (f : Seg → Seg) : (s.modSeg n f).rules = s.rules := rfl
@[simp] theorem State.modSeg_groups (s : State) (n : Nat) (f : Seg → Seg) : (s.modSeg n f).groups = s.groups := rfl
@[simp] theorem State.modSeg_store (s : State) (n : Nat) (f : Seg → Seg) : (s.modSeg n f).store = s.store := rfl
@[simp] theorem State.modSeg_lines (s : State) (n : Nat) (f : Seg → Seg) : (s.modSeg n f).lines = s.lines := rfl
@[simp] theorem State.modSeg_locks (s : State) (n : Nat) (f : Seg → Seg) : (s.modSeg n f).locks = s.locks := rfl
@[simp] theorem State.modSeg_releaseCount (s : State) (n : Nat) (f : Seg → Seg) : (s.modSeg n f).releaseCount = s.releaseCount := rfl
@[simp] theorem State.modSeg_orphanCount (s : State) (n : Nat) (f : Seg → Seg) : (s.modSeg n f).orphanCount = s.orphanCount := rfl
@[simp] theorem State.modSeg_planner (s : State) (n : Nat) (f : Seg → Seg) : (s.modSeg n f).planner = s.planner := rfl
@[simp] theorem State.modSeg_incidents (s : State) (n : Nat) (f : Seg → Seg) : (s.modSeg n f).incidents = s.incidents := rfl
@[simp] theorem State.modSeg_tagCounter (s : State) (n : Nat) (f : Seg → Seg) : (s.modSeg n f).tagCounter = s.tagCounter := rfl
@[simp] theorem State.modSeg_grantMode (s : State) (n : Nat) (f : Seg → Seg) : (s.modSeg n f).grantMode = s.grantMode := rfl
@[simp] theorem State.modSeg_portA (s : State) (n : Nat) (f : Seg → Seg) : (s.modSeg n f).portA = s.portA := rfl
@[simp] theorem State.modSeg_portB (s : State) (n : Nat) (f : Seg → Seg) : (s.modSeg n f).portB = s.portB := rfl
@[simp] theorem State.modSeg_portS (s : State) (n : Nat) (f : Seg → Seg) : (s.modSeg n f).portS = s.portS := rfl
@[simp] theorem State.modSeg_openChecks (s : State) (n : Nat) (f : Seg → Seg) : (s.modSeg n f).openChecks = s.openChecks := rfl

/-! ### modValve -/

@[simp] theorem State.modValve_pending (s : State) (v : Nat) (f : Valve → Valve) : (s.modValve v f).pending = s.pending := rfl
@[simp] theorem State.modValve_now (s : State) (v : Nat) (f : Valve → Valve) : (s.modValve v f).now = s.now := rfl
@[simp] theorem State.modValve_device (s : State) (v : Nat) (f : Valve → Valve) : (s.modValve v f).device = s.device := rfl
@[simp] theorem State.modValve_segs (s : State) (v : Nat) (f : Valve → Valve) : (s.modValve v f).segs = s.segs := rfl
@[simp] theorem State.modValve_valves (s : State) (v : Nat) (f : Valve → Valve) : (s.modValve v f).valves = tabMod s.valves v f := rfl
@[simp] theorem State.modValve_zones (s : State) (v : Nat) (f : Valve → Valve) : (s.modValve v f).zones = s.zones := rfl
@[simp] theorem State.modValve_feeds (s : State) (v : Nat) (f : Valve → Valve) : (s.modValve v f).feeds = s.feeds := rfl
@[simp] theorem State.modValve_points (s : State) (v : Nat) (f : Valve → Valve) : (s.modValve v f).points = s.points := rfl
@[simp] theorem State.modValve_revision (s : State) (v : Nat) (f : Valve → Valve) : (s.modValve v f).revision = s.revision := rfl
@[simp] theorem State.modValve_rules (s : State) (v : Nat) (f : Valve → Valve) : (s.modValve v f).rules = s.rules := rfl
@[simp] theorem State.modValve_groups (s : State) (v : Nat) (f : Valve → Valve) : (s.modValve v f).groups = s.groups := rfl
@[simp] theorem State.modValve_store (s : State) (v : Nat) (f : Valve → Valve) : (s.modValve v f).store = s.store := rfl
@[simp] theorem State.modValve_lines (s : State) (v : Nat) (f : Valve → Valve) : (s.modValve v f).lines = s.lines := rfl
@[simp] theorem State.modValve_locks (s : State) (v : Nat) (f : Valve → Valve) : (s.modValve v f).locks = s.locks := rfl
@[simp] theorem State.modValve_releaseCount (s : State) (v : Nat) (f : Valve → Valve) : (s.modValve v f).releaseCount = s.releaseCount := rfl
@[simp] theorem State.modValve_orphanCount (s : State) (v : Nat) (f : Valve → Valve) : (s.modValve v f).orphanCount = s.orphanCount := rfl
@[simp] theorem State.modValve_planner (s : State) (v : Nat) (f : Valve → Valve) : (s.modValve v f).planner = s.planner := rfl
@[simp] theorem State.modValve_incidents (s : State) (v : Nat) (f : Valve → Valve) : (s.modValve v f).incidents = s.incidents := rfl
@[simp] theorem State.modValve_tagCounter (s : State) (v : Nat) (f : Valve → Valve) : (s.modValve v f).tagCounter = s.tagCounter := rfl
@[simp] theorem State.modValve_grantMode (s : State) (v : Nat) (f : Valve → Valve) : (s.modValve v f).grantMode = s.grantMode := rfl
@[simp] theorem State.modValve_portA (s : State) (v : Nat) (f : Valve → Valve) : (s.modValve v f).portA = s.portA := rfl
@[simp] theorem State.modValve_portB (s : State) (v : Nat) (f : Valve → Valve) : (s.modValve v f).portB = s.portB := rfl
@[simp] theorem State.modValve_portS (s : State) (v : Nat) (f : Valve → Valve) : (s.modValve v f).portS = s.portS := rfl
@[simp] theorem State.modValve_openChecks (s : State) (v : Nat) (f : Valve → Valve) : (s.modValve v f).openChecks = s.openChecks := rfl

/-! ### modVol -/

@[simp] theorem State.modVol_pending (s : State) (v : Nat) (f : ValveVol → ValveVol) : (s.modVol v f).pending = s.pending := rfl
@[simp] theorem State.modVol_now (s : State) (v : Nat) (f : ValveVol → ValveVol) : (s.modVol v f).now = s.now := rfl
@[simp] theorem State.modVol_device (s : State) (v : Nat) (f : ValveVol → ValveVol) : (s.modVol v f).device = s.device := rfl
@[simp] theorem State.modVol_segs (s : State) (v : Nat) (f : ValveVol → ValveVol) : (s.modVol v f).segs = s.segs := rfl
@[simp] theorem State.modVol_valves (s : State) (v : Nat) (f : ValveVol → ValveVol) :
    (s.modVol v f).valves = tabMod s.valves v fun x => { x with vol := f x.vol } := rfl
@[simp] theorem State.modVol_zones (s : State) (v : Nat) (f : ValveVol → ValveVol) : (s.modVol v f).zones = s.zones := rfl
@[simp] theorem State.modVol_feeds (s : State) (v : Nat) (f : ValveVol → ValveVol) : (s.modVol v f).feeds = s.feeds := rfl
@[simp] theorem State.modVol_points (s : State) (v : Nat) (f : ValveVol → ValveVol) : (s.modVol v f).points = s.points := rfl
@[simp] theorem State.modVol_revision (s : State) (v : Nat) (f : ValveVol → ValveVol) : (s.modVol v f).revision = s.revision := rfl
@[simp] theorem State.modVol_rules (s : State) (v : Nat) (f : ValveVol → ValveVol) : (s.modVol v f).rules = s.rules := rfl
@[simp] theorem State.modVol_groups (s : State) (v : Nat) (f : ValveVol → ValveVol) : (s.modVol v f).groups = s.groups := rfl
@[simp] theorem State.modVol_store (s : State) (v : Nat) (f : ValveVol → ValveVol) : (s.modVol v f).store = s.store := rfl
@[simp] theorem State.modVol_lines (s : State) (v : Nat) (f : ValveVol → ValveVol) : (s.modVol v f).lines = s.lines := rfl
@[simp] theorem State.modVol_locks (s : State) (v : Nat) (f : ValveVol → ValveVol) : (s.modVol v f).locks = s.locks := rfl
@[simp] theorem State.modVol_releaseCount (s : State) (v : Nat) (f : ValveVol → ValveVol) : (s.modVol v f).releaseCount = s.releaseCount := rfl
@[simp] theorem State.modVol_orphanCount (s : State) (v : Nat) (f : ValveVol → ValveVol) : (s.modVol v f).orphanCount = s.orphanCount := rfl
@[simp] theorem State.modVol_planner (s : State) (v : Nat) (f : ValveVol → ValveVol) : (s.modVol v f).planner = s.planner := rfl
@[simp] theorem State.modVol_incidents (s : State) (v : Nat) (f : ValveVol → ValveVol) : (s.modVol v f).incidents = s.incidents := rfl
@[simp] theorem State.modVol_tagCounter (s : State) (v : Nat) (f : ValveVol → ValveVol) : (s.modVol v f).tagCounter = s.tagCounter := rfl
@[simp] theorem State.modVol_grantMode (s : State) (v : Nat) (f : ValveVol → ValveVol) : (s.modVol v f).grantMode = s.grantMode := rfl
@[simp] theorem State.modVol_portA (s : State) (v : Nat) (f : ValveVol → ValveVol) : (s.modVol v f).portA = s.portA := rfl
@[simp] theorem State.modVol_portB (s : State) (v : Nat) (f : ValveVol → ValveVol) : (s.modVol v f).portB = s.portB := rfl
@[simp] theorem State.modVol_portS (s : State) (v : Nat) (f : ValveVol → ValveVol) : (s.modVol v f).portS = s.portS := rfl
@[simp] theorem State.modVol_openChecks (s : State) (v : Nat) (f : ValveVol → ValveVol) : (s.modVol v f).openChecks = s.openChecks := rfl

/-! ### modPoint -/

@[simp] theorem State.modPoint_pending (s : State) (p : Nat) (f : Point → Point) : (s.modPoint p f).pending = s.pending := rfl
@[simp] theorem State.modPoint_now (s : State) (p : Nat) (f : Point → Point) : (s.modPoint p f).now = s.now := rfl
@[simp] theorem State.modPoint_device (s : State) (p : Nat) (f : Point → Point) : (s.modPoint p f).device = s.device := rfl
@[simp] theorem State.modPoint_segs (s : State) (p : Nat) (f : Point → Point) : (s.modPoint p f).segs = s.segs := rfl
@[simp] theorem State.modPoint_valves (s : State) (p : Nat) (f : Point → Point) : (s.modPoint p f).valves = s.valves := rfl
@[simp] theorem State.modPoint_zones (s : State) (p : Nat) (f : Point → Point) : (s.modPoint p f).zones = s.zones := rfl
@[simp] theorem State.modPoint_feeds (s : State) (p : Nat) (f : Point → Point) : (s.modPoint p f).feeds = s.feeds := rfl
@[simp] theorem State.modPoint_points (s : State) (p : Nat) (f : Point → Point) : (s.modPoint p f).points = tabMod s.points p f := rfl
@[simp] theorem State.modPoint_revision (s : State) (p : Nat) (f : Point → Point) : (s.modPoint p f).revision = s.revision := rfl
@[simp] theorem State.modPoint_rules (s : State) (p : Nat) (f : Point → Point) : (s.modPoint p f).rules = s.rules := rfl
@[simp] theorem State.modPoint_groups (s : State) (p : Nat) (f : Point → Point) : (s.modPoint p f).groups = s.groups := rfl
@[simp] theorem State.modPoint_store (s : State) (p : Nat) (f : Point → Point) : (s.modPoint p f).store = s.store := rfl
@[simp] theorem State.modPoint_lines (s : State) (p : Nat) (f : Point → Point) : (s.modPoint p f).lines = s.lines := rfl
@[simp] theorem State.modPoint_locks (s : State) (p : Nat) (f : Point → Point) : (s.modPoint p f).locks = s.locks := rfl
@[simp] theorem State.modPoint_releaseCount (s : State) (p : Nat) (f : Point → Point) : (s.modPoint p f).releaseCount = s.releaseCount := rfl
@[simp] theorem State.modPoint_orphanCount (s : State) (p : Nat) (f : Point → Point) : (s.modPoint p f).orphanCount = s.orphanCount := rfl
@[simp] theorem State.modPoint_planner (s : State) (p : Nat) (f : Point → Point) : (s.modPoint p f).planner = s.planner := rfl
@[simp] theorem State.modPoint_incidents (s : State) (p : Nat) (f : Point → Point) : (s.modPoint p f).incidents = s.incidents := rfl
@[simp] theorem State.modPoint_tagCounter (s : State) (p : Nat) (f : Point → Point) : (s.modPoint p f).tagCounter = s.tagCounter := rfl
@[simp] theorem State.modPoint_grantMode (s : State) (p : Nat) (f : Point → Point) : (s.modPoint p f).grantMode = s.grantMode := rfl
@[simp] theorem State.modPoint_portA (s : State) (p : Nat) (f : Point → Point) : (s.modPoint p f).portA = s.portA := rfl
@[simp] theorem State.modPoint_portB (s : State) (p : Nat) (f : Point → Point) : (s.modPoint p f).portB = s.portB := rfl
@[simp] theorem State.modPoint_portS (s : State) (p : Nat) (f : Point → Point) : (s.modPoint p f).portS = s.portS := rfl
@[simp] theorem State.modPoint_openChecks (s : State) (p : Nat) (f : Point → Point) : (s.modPoint p f).openChecks = s.openChecks := rfl

/-! ### modInc -/

@[simp] theorem State.modInc_pending (s : State) (i : Fin 16) (f : Incident → Incident) : (s.modInc i f).pending = s.pending := rfl
@[simp] theorem State.modInc_now (s : State) (i : Fin 16) (f : Incident → Incident) : (s.modInc i f).now = s.now := rfl
@[simp] theorem State.modInc_device (s : State) (i : Fin 16) (f : Incident → Incident) : (s.modInc i f).device = s.device := rfl
@[simp] theorem State.modInc_segs (s : State) (i : Fin 16) (f : Incident → Incident) : (s.modInc i f).segs = s.segs := rfl
@[simp] theorem State.modInc_valves (s : State) (i : Fin 16) (f : Incident → Incident) : (s.modInc i f).valves = s.valves := rfl
@[simp] theorem State.modInc_zones (s : State) (i : Fin 16) (f : Incident → Incident) : (s.modInc i f).zones = s.zones := rfl
@[simp] theorem State.modInc_feeds (s : State) (i : Fin 16) (f : Incident → Incident) : (s.modInc i f).feeds = s.feeds := rfl
@[simp] theorem State.modInc_points (s : State) (i : Fin 16) (f : Incident → Incident) : (s.modInc i f).points = s.points := rfl
@[simp] theorem State.modInc_revision (s : State) (i : Fin 16) (f : Incident → Incident) : (s.modInc i f).revision = s.revision := rfl
@[simp] theorem State.modInc_rules (s : State) (i : Fin 16) (f : Incident → Incident) : (s.modInc i f).rules = s.rules := rfl
@[simp] theorem State.modInc_groups (s : State) (i : Fin 16) (f : Incident → Incident) : (s.modInc i f).groups = s.groups := rfl
@[simp] theorem State.modInc_store (s : State) (i : Fin 16) (f : Incident → Incident) : (s.modInc i f).store = s.store := rfl
@[simp] theorem State.modInc_lines (s : State) (i : Fin 16) (f : Incident → Incident) : (s.modInc i f).lines = s.lines := rfl
@[simp] theorem State.modInc_locks (s : State) (i : Fin 16) (f : Incident → Incident) : (s.modInc i f).locks = s.locks := rfl
@[simp] theorem State.modInc_releaseCount (s : State) (i : Fin 16) (f : Incident → Incident) : (s.modInc i f).releaseCount = s.releaseCount := rfl
@[simp] theorem State.modInc_orphanCount (s : State) (i : Fin 16) (f : Incident → Incident) : (s.modInc i f).orphanCount = s.orphanCount := rfl
@[simp] theorem State.modInc_planner (s : State) (i : Fin 16) (f : Incident → Incident) : (s.modInc i f).planner = s.planner := rfl
@[simp] theorem State.modInc_incidents (s : State) (i : Fin 16) (f : Incident → Incident) : (s.modInc i f).incidents = s.incidents.set i (f (s.inc i)) := rfl
@[simp] theorem State.modInc_tagCounter (s : State) (i : Fin 16) (f : Incident → Incident) : (s.modInc i f).tagCounter = s.tagCounter := rfl
@[simp] theorem State.modInc_grantMode (s : State) (i : Fin 16) (f : Incident → Incident) : (s.modInc i f).grantMode = s.grantMode := rfl
@[simp] theorem State.modInc_portA (s : State) (i : Fin 16) (f : Incident → Incident) : (s.modInc i f).portA = s.portA := rfl
@[simp] theorem State.modInc_portB (s : State) (i : Fin 16) (f : Incident → Incident) : (s.modInc i f).portB = s.portB := rfl
@[simp] theorem State.modInc_portS (s : State) (i : Fin 16) (f : Incident → Incident) : (s.modInc i f).portS = s.portS := rfl
@[simp] theorem State.modInc_openChecks (s : State) (i : Fin 16) (f : Incident → Incident) : (s.modInc i f).openChecks = s.openChecks := rfl

/-! ### modLine -/

@[simp] theorem State.modLine_pending (s : State) (l : Fin 4) (f : Line → Line) : (s.modLine l f).pending = s.pending := rfl
@[simp] theorem State.modLine_now (s : State) (l : Fin 4) (f : Line → Line) : (s.modLine l f).now = s.now := rfl
@[simp] theorem State.modLine_device (s : State) (l : Fin 4) (f : Line → Line) : (s.modLine l f).device = s.device := rfl
@[simp] theorem State.modLine_segs (s : State) (l : Fin 4) (f : Line → Line) : (s.modLine l f).segs = s.segs := rfl
@[simp] theorem State.modLine_valves (s : State) (l : Fin 4) (f : Line → Line) : (s.modLine l f).valves = s.valves := rfl
@[simp] theorem State.modLine_zones (s : State) (l : Fin 4) (f : Line → Line) : (s.modLine l f).zones = s.zones := rfl
@[simp] theorem State.modLine_feeds (s : State) (l : Fin 4) (f : Line → Line) : (s.modLine l f).feeds = s.feeds := rfl
@[simp] theorem State.modLine_points (s : State) (l : Fin 4) (f : Line → Line) : (s.modLine l f).points = s.points := rfl
@[simp] theorem State.modLine_revision (s : State) (l : Fin 4) (f : Line → Line) : (s.modLine l f).revision = s.revision := rfl
@[simp] theorem State.modLine_rules (s : State) (l : Fin 4) (f : Line → Line) : (s.modLine l f).rules = s.rules := rfl
@[simp] theorem State.modLine_groups (s : State) (l : Fin 4) (f : Line → Line) : (s.modLine l f).groups = s.groups := rfl
@[simp] theorem State.modLine_store (s : State) (l : Fin 4) (f : Line → Line) : (s.modLine l f).store = s.store := rfl
@[simp] theorem State.modLine_lines (s : State) (l : Fin 4) (f : Line → Line) : (s.modLine l f).lines = s.lines.set l (f (s.line l)) := rfl
@[simp] theorem State.modLine_locks (s : State) (l : Fin 4) (f : Line → Line) : (s.modLine l f).locks = s.locks := rfl
@[simp] theorem State.modLine_releaseCount (s : State) (l : Fin 4) (f : Line → Line) : (s.modLine l f).releaseCount = s.releaseCount := rfl
@[simp] theorem State.modLine_orphanCount (s : State) (l : Fin 4) (f : Line → Line) : (s.modLine l f).orphanCount = s.orphanCount := rfl
@[simp] theorem State.modLine_planner (s : State) (l : Fin 4) (f : Line → Line) : (s.modLine l f).planner = s.planner := rfl
@[simp] theorem State.modLine_incidents (s : State) (l : Fin 4) (f : Line → Line) : (s.modLine l f).incidents = s.incidents := rfl
@[simp] theorem State.modLine_tagCounter (s : State) (l : Fin 4) (f : Line → Line) : (s.modLine l f).tagCounter = s.tagCounter := rfl
@[simp] theorem State.modLine_grantMode (s : State) (l : Fin 4) (f : Line → Line) : (s.modLine l f).grantMode = s.grantMode := rfl
@[simp] theorem State.modLine_portA (s : State) (l : Fin 4) (f : Line → Line) : (s.modLine l f).portA = s.portA := rfl
@[simp] theorem State.modLine_portB (s : State) (l : Fin 4) (f : Line → Line) : (s.modLine l f).portB = s.portB := rfl
@[simp] theorem State.modLine_portS (s : State) (l : Fin 4) (f : Line → Line) : (s.modLine l f).portS = s.portS := rfl
@[simp] theorem State.modLine_openChecks (s : State) (l : Fin 4) (f : Line → Line) : (s.modLine l f).openChecks = s.openChecks := rfl

/-! ### modZone -/

@[simp] theorem State.modZone_pending (s : State) (z : Fin 8) (f : Zone → Zone) : (s.modZone z f).pending = s.pending := rfl
@[simp] theorem State.modZone_now (s : State) (z : Fin 8) (f : Zone → Zone) : (s.modZone z f).now = s.now := rfl
@[simp] theorem State.modZone_device (s : State) (z : Fin 8) (f : Zone → Zone) : (s.modZone z f).device = s.device := rfl
@[simp] theorem State.modZone_segs (s : State) (z : Fin 8) (f : Zone → Zone) : (s.modZone z f).segs = s.segs := rfl
@[simp] theorem State.modZone_valves (s : State) (z : Fin 8) (f : Zone → Zone) : (s.modZone z f).valves = s.valves := rfl
@[simp] theorem State.modZone_zones (s : State) (z : Fin 8) (f : Zone → Zone) : (s.modZone z f).zones = s.zones.set z (f (s.zone z)) := rfl
@[simp] theorem State.modZone_feeds (s : State) (z : Fin 8) (f : Zone → Zone) : (s.modZone z f).feeds = s.feeds := rfl
@[simp] theorem State.modZone_points (s : State) (z : Fin 8) (f : Zone → Zone) : (s.modZone z f).points = s.points := rfl
@[simp] theorem State.modZone_revision (s : State) (z : Fin 8) (f : Zone → Zone) : (s.modZone z f).revision = s.revision := rfl
@[simp] theorem State.modZone_rules (s : State) (z : Fin 8) (f : Zone → Zone) : (s.modZone z f).rules = s.rules := rfl
@[simp] theorem State.modZone_groups (s : State) (z : Fin 8) (f : Zone → Zone) : (s.modZone z f).groups = s.groups := rfl
@[simp] theorem State.modZone_store (s : State) (z : Fin 8) (f : Zone → Zone) : (s.modZone z f).store = s.store := rfl
@[simp] theorem State.modZone_lines (s : State) (z : Fin 8) (f : Zone → Zone) : (s.modZone z f).lines = s.lines := rfl
@[simp] theorem State.modZone_locks (s : State) (z : Fin 8) (f : Zone → Zone) : (s.modZone z f).locks = s.locks := rfl
@[simp] theorem State.modZone_releaseCount (s : State) (z : Fin 8) (f : Zone → Zone) : (s.modZone z f).releaseCount = s.releaseCount := rfl
@[simp] theorem State.modZone_orphanCount (s : State) (z : Fin 8) (f : Zone → Zone) : (s.modZone z f).orphanCount = s.orphanCount := rfl
@[simp] theorem State.modZone_planner (s : State) (z : Fin 8) (f : Zone → Zone) : (s.modZone z f).planner = s.planner := rfl
@[simp] theorem State.modZone_incidents (s : State) (z : Fin 8) (f : Zone → Zone) : (s.modZone z f).incidents = s.incidents := rfl
@[simp] theorem State.modZone_tagCounter (s : State) (z : Fin 8) (f : Zone → Zone) : (s.modZone z f).tagCounter = s.tagCounter := rfl
@[simp] theorem State.modZone_grantMode (s : State) (z : Fin 8) (f : Zone → Zone) : (s.modZone z f).grantMode = s.grantMode := rfl
@[simp] theorem State.modZone_portA (s : State) (z : Fin 8) (f : Zone → Zone) : (s.modZone z f).portA = s.portA := rfl
@[simp] theorem State.modZone_portB (s : State) (z : Fin 8) (f : Zone → Zone) : (s.modZone z f).portB = s.portB := rfl
@[simp] theorem State.modZone_portS (s : State) (z : Fin 8) (f : Zone → Zone) : (s.modZone z f).portS = s.portS := rfl
@[simp] theorem State.modZone_openChecks (s : State) (z : Fin 8) (f : Zone → Zone) : (s.modZone z f).openChecks = s.openChecks := rfl

/-! ### modPort and modPorts -/

@[simp] theorem State.modPort_pending (s : State) (l : Link) (f : Port → Port) : (s.modPort l f).pending = s.pending := by cases l <;> rfl
@[simp] theorem State.modPorts_pending (s : State) (f : Port → Port) : (s.modPorts f).pending = s.pending := rfl
@[simp] theorem State.modPort_now (s : State) (l : Link) (f : Port → Port) : (s.modPort l f).now = s.now := by cases l <;> rfl
@[simp] theorem State.modPorts_now (s : State) (f : Port → Port) : (s.modPorts f).now = s.now := rfl
@[simp] theorem State.modPort_device (s : State) (l : Link) (f : Port → Port) : (s.modPort l f).device = s.device := by cases l <;> rfl
@[simp] theorem State.modPorts_device (s : State) (f : Port → Port) : (s.modPorts f).device = s.device := rfl
@[simp] theorem State.modPort_segs (s : State) (l : Link) (f : Port → Port) : (s.modPort l f).segs = s.segs := by cases l <;> rfl
@[simp] theorem State.modPorts_segs (s : State) (f : Port → Port) : (s.modPorts f).segs = s.segs := rfl
@[simp] theorem State.modPort_valves (s : State) (l : Link) (f : Port → Port) : (s.modPort l f).valves = s.valves := by cases l <;> rfl
@[simp] theorem State.modPorts_valves (s : State) (f : Port → Port) : (s.modPorts f).valves = s.valves := rfl
@[simp] theorem State.modPort_zones (s : State) (l : Link) (f : Port → Port) : (s.modPort l f).zones = s.zones := by cases l <;> rfl
@[simp] theorem State.modPorts_zones (s : State) (f : Port → Port) : (s.modPorts f).zones = s.zones := rfl
@[simp] theorem State.modPort_feeds (s : State) (l : Link) (f : Port → Port) : (s.modPort l f).feeds = s.feeds := by cases l <;> rfl
@[simp] theorem State.modPorts_feeds (s : State) (f : Port → Port) : (s.modPorts f).feeds = s.feeds := rfl
@[simp] theorem State.modPort_points (s : State) (l : Link) (f : Port → Port) : (s.modPort l f).points = s.points := by cases l <;> rfl
@[simp] theorem State.modPorts_points (s : State) (f : Port → Port) : (s.modPorts f).points = s.points := rfl
@[simp] theorem State.modPort_revision (s : State) (l : Link) (f : Port → Port) : (s.modPort l f).revision = s.revision := by cases l <;> rfl
@[simp] theorem State.modPorts_revision (s : State) (f : Port → Port) : (s.modPorts f).revision = s.revision := rfl
@[simp] theorem State.modPort_rules (s : State) (l : Link) (f : Port → Port) : (s.modPort l f).rules = s.rules := by cases l <;> rfl
@[simp] theorem State.modPorts_rules (s : State) (f : Port → Port) : (s.modPorts f).rules = s.rules := rfl
@[simp] theorem State.modPort_groups (s : State) (l : Link) (f : Port → Port) : (s.modPort l f).groups = s.groups := by cases l <;> rfl
@[simp] theorem State.modPorts_groups (s : State) (f : Port → Port) : (s.modPorts f).groups = s.groups := rfl
@[simp] theorem State.modPort_store (s : State) (l : Link) (f : Port → Port) : (s.modPort l f).store = s.store := by cases l <;> rfl
@[simp] theorem State.modPorts_store (s : State) (f : Port → Port) : (s.modPorts f).store = s.store := rfl
@[simp] theorem State.modPort_lines (s : State) (l : Link) (f : Port → Port) : (s.modPort l f).lines = s.lines := by cases l <;> rfl
@[simp] theorem State.modPorts_lines (s : State) (f : Port → Port) : (s.modPorts f).lines = s.lines := rfl
@[simp] theorem State.modPort_locks (s : State) (l : Link) (f : Port → Port) : (s.modPort l f).locks = s.locks := by cases l <;> rfl
@[simp] theorem State.modPorts_locks (s : State) (f : Port → Port) : (s.modPorts f).locks = s.locks := rfl
@[simp] theorem State.modPort_releaseCount (s : State) (l : Link) (f : Port → Port) : (s.modPort l f).releaseCount = s.releaseCount := by cases l <;> rfl
@[simp] theorem State.modPorts_releaseCount (s : State) (f : Port → Port) : (s.modPorts f).releaseCount = s.releaseCount := rfl
@[simp] theorem State.modPort_orphanCount (s : State) (l : Link) (f : Port → Port) : (s.modPort l f).orphanCount = s.orphanCount := by cases l <;> rfl
@[simp] theorem State.modPorts_orphanCount (s : State) (f : Port → Port) : (s.modPorts f).orphanCount = s.orphanCount := rfl
@[simp] theorem State.modPort_planner (s : State) (l : Link) (f : Port → Port) : (s.modPort l f).planner = s.planner := by cases l <;> rfl
@[simp] theorem State.modPorts_planner (s : State) (f : Port → Port) : (s.modPorts f).planner = s.planner := rfl
@[simp] theorem State.modPort_incidents (s : State) (l : Link) (f : Port → Port) : (s.modPort l f).incidents = s.incidents := by cases l <;> rfl
@[simp] theorem State.modPorts_incidents (s : State) (f : Port → Port) : (s.modPorts f).incidents = s.incidents := rfl
@[simp] theorem State.modPort_tagCounter (s : State) (l : Link) (f : Port → Port) : (s.modPort l f).tagCounter = s.tagCounter := by cases l <;> rfl
@[simp] theorem State.modPorts_tagCounter (s : State) (f : Port → Port) : (s.modPorts f).tagCounter = s.tagCounter := rfl
@[simp] theorem State.modPort_grantMode (s : State) (l : Link) (f : Port → Port) : (s.modPort l f).grantMode = s.grantMode := by cases l <;> rfl
@[simp] theorem State.modPorts_grantMode (s : State) (f : Port → Port) : (s.modPorts f).grantMode = s.grantMode := rfl
@[simp] theorem State.modPort_openChecks (s : State) (l : Link) (f : Port → Port) : (s.modPort l f).openChecks = s.openChecks := by cases l <;> rfl
@[simp] theorem State.modPorts_openChecks (s : State) (f : Port → Port) : (s.modPorts f).openChecks = s.openChecks := rfl

@[simp] theorem State.port_modPort_self (s : State) (l : Link) (f : Port → Port) :
    (s.modPort l f).port l = f (s.port l) := by cases l <;> rfl
theorem State.port_modPort (s : State) (l k : Link) (f : Port → Port) :
    (s.modPort l f).port k = if l = k then f (s.port k) else s.port k := by cases l <;> cases k <;> rfl
@[simp] theorem State.port_modPorts (s : State) (l : Link) (f : Port → Port) :
    (s.modPorts f).port l = f (s.port l) := by cases l <;> rfl
theorem State.modPort_modPort (s : State) (l : Link) (f g : Port → Port) :
    (s.modPort l f).modPort l g = s.modPort l fun p => g (f p) := by cases l <;> rfl
theorem State.modPort_id (s : State) (l : Link) (f : Port → Port) (h : f (s.port l) = s.port l) : s.modPort l f = s := by
  cases l <;> (simp only [State.modPort]; cases s; simp_all [State.port])
theorem State.modPort_congr (s : State) (l : Link) (f g : Port → Port) (h : f (s.port l) = g (s.port l)) :
    s.modPort l f = s.modPort l g := by
  cases l <;> simp_all [State.modPort, State.port]

/-! ### The accessors after an update of the same or another place -/

@[simp] theorem State.inc_modInc_self (s : State) (i : Fin 16) (f : Incident → Incident) :
    (s.modInc i f).inc i = f (s.inc i) := vget_set_self _ _ _
theorem State.inc_modInc_of_ne (s : State) (i k : Fin 16) (f : Incident → Incident) (h : i ≠ k) :
    (s.modInc i f).inc k = s.inc k :=
  vget_set_of_ne _ _ _ _ h
@[simp] theorem State.line_modLine_self (s : State) (l : Fin 4) (f : Line → Line) :
    (s.modLine l f).line l = f (s.line l) := vget_set_self _ _ _
theorem State.line_modLine_of_ne (s : State) (l k : Fin 4) (f : Line → Line) (h : l ≠ k) :
    (s.modLine l f).line k = s.line k :=
  vget_set_of_ne _ _ _ _ h
@[simp] theorem State.zone_modZone_self (s : State) (z : Fin 8) (f : Zone → Zone) :
    (s.modZone z f).zone z = f (s.zone z) := vget_set_self _ _ _
theorem State.zone_modZone_of_ne (s : State) (z k : Fin 8) (f : Zone → Zone) (h : z ≠ k) :
    (s.modZone z f).zone k = s.zone k :=
  vget_set_of_ne _ _ _ _ h

@[simp] theorem State.inc_modPort (s : State) (l : Link) (f : Port → Port) (i : Fin 16) :
    (s.modPort l f).inc i = s.inc i := by cases l <;> rfl
@[simp] theorem State.line_modPort (s : State) (l : Link) (f : Port → Port) (k : Fin 4) :
    (s.modPort l f).line k = s.line k := by cases l <;> rfl
@[simp] theorem State.zone_modPort (s : State) (l : Link) (f : Port → Port) (z : Fin 8) :
    (s.modPort l f).zone z = s.zone z := by cases l <;> rfl
@[simp] theorem State.valve?_modPort (s : State) (l : Link) (f : Port → Port) (v : Nat) :
    (s.modPort l f).valve? v = s.valve? v := by cases l <;> rfl
@[simp] theorem State.seg?_modPort (s : State) (l : Link) (f : Port → Port) (n : Nat) :
    (s.modPort l f).seg? n = s.seg? n := by cases l <;> rfl
@[simp] theorem State.point?_modPort (s : State) (l : Link) (f : Port → Port) (n : Nat) :
    (s.modPort l f).point? n = s.point? n := by cases l <;> rfl
@[simp] theorem State.imageWriting_modPort (s : State) (l : Link) (f : Port → Port) :
    (s.modPort l f).imageWriting = s.imageWriting := by cases l <;> rfl
@[simp] theorem State.plannerBusy_modPort (s : State) (l : Link) (f : Port → Port) :
    (s.modPort l f).plannerBusy = s.plannerBusy := by cases l <;> rfl
@[simp] theorem State.anyInUse_modPort (s : State) (l : Link) (f : Port → Port) :
    (s.modPort l f).anyInUse = s.anyInUse := by cases l <;> rfl
@[simp] theorem State.tenancy_modPort (s : State) (l : Link) (f : Port → Port) (i : Fin 16) (t : Nat) :
    (s.modPort l f).tenancy i t = s.tenancy i t := by cases l <;> rfl

/-! ## A motion that keeps its step number -/

section
variable (m : Motion) (o : Owner) (x : Incident)

@[simp] theorem Motion.keepStepNo_owner : (m.keepStepNo o x).owner = m.owner := by unfold Motion.keepStepNo; split <;> rfl
@[simp] theorem Motion.keepStepNo_valve : (m.keepStepNo o x).valve = m.valve := by unfold Motion.keepStepNo; split <;> rfl
@[simp] theorem Motion.keepStepNo_dir : (m.keepStepNo o x).dir = m.dir := by unfold Motion.keepStepNo; split <;> rfl
@[simp] theorem Motion.keepStepNo_figures : (m.keepStepNo o x).figures = m.figures := by unfold Motion.keepStepNo; split <;> rfl
@[simp] theorem Motion.keepStepNo_motionTimer : (m.keepStepNo o x).motionTimer = m.motionTimer := by unfold Motion.keepStepNo; split <;> rfl
@[simp] theorem Motion.keepStepNo_stopTimer : (m.keepStepNo o x).stopTimer = m.stopTimer := by unfold Motion.keepStepNo; split <;> rfl
@[simp] theorem Motion.keepStepNo_stop : (m.keepStepNo o x).stop = m.stop := by unfold Motion.keepStepNo; split <;> rfl
@[simp] theorem Motion.keepStepNo_reversal : (m.keepStepNo o x).reversal = m.reversal := by unfold Motion.keepStepNo; split <;> rfl

end

end Sys2Proof.Machine
end

