-- ==== Sys2Proof/Laws/Tables.lean ====
section
/-! SUPPORT. What each operation over a table can do: what a read finds after it, that the indices keep rising (the one
canonical form), and what it leaves of the other records. -/

namespace Sys2Proof.Machine

open Sys2Proof

theorem tabMod_map {α β : Type} (l : List (Nat × α)) (k : Nat) (f : α → α) (g : Nat × α → β)
    (h : ∀ a, g (k, f a) = g (k, a)) : (tabMod l k f).map g = l.map g := by
  induction l with
  | nil => rfl
  | cons e rest ih =>
    obtain ⟨j, a⟩ := e
    simp only [tabMod]
    split
    · subst_vars; simp [h]
    · simp [ih]

/-- Rising, said by the index that a record may not fall below. -/
def risingFrom {α : Type} : Nat → List (Nat × α) → Prop
  | _, [] => True
  | n, (j, _) :: rest => n ≤ j ∧ risingFrom (j + 1) rest

theorem risingFrom_mono {α : Type} {m n : Nat} {l : List (Nat × α)} (h : risingFrom n l) (hm : m ≤ n) :
    risingFrom m l := by
  cases l with
  | nil => trivial
  | cons e rest => exact ⟨Nat.le_trans hm h.1, h.2⟩

theorem tabRising_iff {α : Type} (l : List (Nat × α)) : tabRising l = true ↔ risingFrom 0 l := by
  suffices h : ∀ (l : List (Nat × α)) (j : Nat) (a : α), tabRising ((j, a) :: l) = true ↔ risingFrom (j + 1) l by
    cases l with
    | nil => simp [tabRising, risingFrom]
    | cons e rest => obtain ⟨j, a⟩ := e; simp [h, risingFrom]
  intro l
  induction l with
  | nil => intro j a; simp [tabRising, risingFrom]
  | cons e rest ih =>
    obtain ⟨k, b⟩ := e
    intro j a
    simp only [tabRising, Bool.and_eq_true, decide_eq_true_eq, risingFrom, ih k b]
    constructor <;> rintro ⟨h1, h2⟩ <;> exact ⟨by omega, h2⟩

theorem tabGet_none_of_lt {α : Type} {l : List (Nat × α)} {n k : Nat} (h : risingFrom n l) (hk : k < n) :
    tabGet l k = none := by
  induction l generalizing n with
  | nil => rfl
  | cons e rest ih =>
    obtain ⟨j, a⟩ := e
    obtain ⟨h1, h2⟩ := h
    simp only [tabGet]
    rw [if_neg (by omega)]
    exact ih h2 (by omega)

/-- A write is read back, and every other index reads as before. -/
theorem tabGet_tabPut {α : Type} (l : List (Nat × α)) (k i : Nat) (x : α) :
    tabGet (tabPut l k x) i = if i = k then some x else tabGet l i := by
  induction l with
  | nil => simp [tabPut, tabGet]
  | cons e rest ih =>
    obtain ⟨j, a⟩ := e
    simp only [tabPut]
    split
    · simp [tabGet]
    · split
      · subst_vars; simp only [tabGet]; split <;> simp_all
      · simp only [tabGet, ih]
        split <;> split <;> simp_all

theorem tabGet_tabMod {α : Type} (l : List (Nat × α)) (k i : Nat) (f : α → α) :
    tabGet (tabMod l k f) i = if i = k then (tabGet l i).map f else tabGet l i := by
  induction l with
  | nil => simp [tabMod, tabGet]
  | cons e rest ih =>
    obtain ⟨j, a⟩ := e
    simp only [tabMod]
    split
    · subst_vars; simp only [tabGet]; split <;> simp_all
    · simp only [tabGet, ih]
      split <;> split <;> simp_all

/-- In a rising table a drop unlists its index and no other. -/
theorem tabGet_tabDrop {α : Type} {l : List (Nat × α)} {n : Nat} (h : risingFrom n l) (k i : Nat) :
    tabGet (tabDrop l k) i = if i = k then none else tabGet l i := by
  induction l generalizing n with
  | nil => simp [tabDrop, tabGet]
  | cons e rest ih =>
    obtain ⟨j, a⟩ := e
    obtain ⟨h1, h2⟩ := h
    simp only [tabDrop]
    split
    · subst_vars
      simp only [tabGet]
      split
      · subst_vars; exact tabGet_none_of_lt h2 (by omega)
      · rfl
    · simp only [tabGet, ih h2]
      split <;> split <;> simp_all

theorem risingFrom_tabPut {α : Type} {l : List (Nat × α)} {n : Nat} (h : risingFrom n l) (k : Nat) (x : α) (hk : n ≤ k) :
    risingFrom n (tabPut l k x) := by
  induction l generalizing n with
  | nil => exact ⟨hk, trivial⟩
  | cons e rest ih =>
    obtain ⟨j, a⟩ := e
    obtain ⟨h1, h2⟩ := h
    simp only [tabPut]
    split
    · exact ⟨hk, by omega, h2⟩
    · split
      · subst_vars; exact ⟨h1, h2⟩
      · exact ⟨h1, ih h2 (by omega)⟩

theorem risingFrom_tabDrop {α : Type} {l : List (Nat × α)} {n : Nat} (h : risingFrom n l) (k : Nat) :
    risingFrom n (tabDrop l k) := by
  induction l generalizing n with
  | nil => trivial
  | cons e rest ih =>
    obtain ⟨j, a⟩ := e
    obtain ⟨h1, h2⟩ := h
    simp only [tabDrop]
    split
    · exact risingFrom_mono h2 (by omega)
    · exact ⟨h1, ih h2⟩

/-- Rising depends on the indices alone. -/
theorem risingFrom_congr {α β : Type} {l : List (Nat × α)} {m : List (Nat × β)} {n : Nat}
    (e : l.map (·.1) = m.map (·.1)) (h : risingFrom n l) : risingFrom n m := by
  induction l generalizing m n with
  | nil => cases m with
    | nil => trivial
    | cons _ _ => simp at e
  | cons a rest ih =>
    cases m with
    | nil => simp at e
    | cons b rest' =>
      simp only [List.map_cons, List.cons.injEq] at e
      exact ⟨e.1 ▸ h.1, e.1 ▸ ih e.2 h.2⟩

/-- The table operations keep the one canonical form. -/
theorem tabRising_tabPut {α : Type} {l : List (Nat × α)} (h : tabRising l = true) (k : Nat) (x : α) :
    tabRising (tabPut l k x) = true := by
  rw [tabRising_iff] at *
  exact risingFrom_tabPut h k x (Nat.zero_le _)

theorem tabRising_tabDrop {α : Type} {l : List (Nat × α)} (h : tabRising l = true) (k : Nat) :
    tabRising (tabDrop l k) = true := by
  rw [tabRising_iff] at *
  exact risingFrom_tabDrop h k

theorem tabRising_congr {α β : Type} {l : List (Nat × α)} {m : List (Nat × β)} (e : l.map (·.1) = m.map (·.1))
    (h : tabRising l = true) : tabRising m = true := by
  rw [tabRising_iff] at *
  exact risingFrom_congr e h

theorem tabMod_keys {α : Type} (l : List (Nat × α)) (k : Nat) (f : α → α) : (tabMod l k f).map (·.1) = l.map (·.1) :=
  tabMod_map l k f _ fun _ => rfl

theorem tabRising_tabMod {α : Type} {l : List (Nat × α)} (h : tabRising l = true) (k : Nat) (f : α → α) :
    tabRising (tabMod l k f) = true := tabRising_congr (tabMod_keys l k f).symm h

end Sys2Proof.Machine
end

