-- ==== Sys2Proof/Laws/Kept.lean ====
section
/-! SUPPORT. What falls due of itself leaves `Kept` alone: one lemma per operation of the motion executor, the planner's
requests, the waves and the settling, up to `State.finish`. -/

namespace Sys2Proof.Machine

open Sys2Proof

/-! ### Ports -/

@[simp] theorem Port.kick_kept (p : Port) : p.kick.kept = p.kept := by
  unfold Port.kick
  split
  · rfl
  · rename_i h
    split
    · rename_i r rest h2
      simp [Port.kept, Port.answers, h, h2]
    · rename_i h2
      split <;> simp [Port.kept, Port.answers, h, h2]

@[simp] theorem Port.post_kept (p : Port) (r : Reply) : (p.post r).kept = p.kept.answered r := by
  rw [Port.post, Port.kick_kept]
  simp [Port.kept, Port.answers, PortKept.answered]

@[simp] theorem Port.raiseInc_kept (p : Port) (i : Fin 16) (t : Option Nat) (k : IncFlag) :
    (p.raiseInc i t k).kept = p.kept := by
  unfold Port.raiseInc; split <;> rfl

@[simp] theorem Port.raiseDev_kept (p : Port) (k : DevFlag) : (p.raiseDev k).kept = p.kept := by
  unfold Port.raiseDev; split <;> rfl

/-! ### The updates of one place -/

@[simp] theorem State.modInc_kept (s : State) (i : Fin 16) (f : Incident → Incident) : (s.modInc i f).kept = s.kept := rfl

theorem State.modPorts_kept (s : State) (f : Port → Port) (h : ∀ p, (f p).kept = p.kept) :
    (s.modPorts f).kept = s.kept := by
  simp [State.kept, State.modPorts, State.image, State.positions, State.samples, h]

theorem State.modLine_kept (s : State) (l : Fin 4) (f : Line → Line) (h : ∀ x, (f x).poll = x.poll) :
    (s.modLine l f).kept = s.kept := by
  have : (s.modLine l f).lines.map Line.poll = s.lines.map Line.poll := vmap_set _ _ _ _ (h _)
  simp only [State.kept, this]
  rfl

theorem State.modZone_kept (s : State) (z : Fin 8) (f : Zone → Zone) (h : ∀ x, (f x).record = x.record) :
    (s.modZone z f).kept = s.kept := by
  have : (s.modZone z f).zones.map (·.record) = s.zones.map (·.record) := vmap_set _ _ _ _ (h _)
  simp only [State.kept, State.image, this]
  rfl

theorem State.modValve_kept (s : State) (v : Nat) (f : Valve → Valve)
    (h : ∀ x, (f x).st = x.st ∧ (f x).vol.reported = x.vol.reported ∧ (f x).vol.accepted = x.vol.accepted) :
    (s.modValve v f).kept = s.kept := by
  have h1 : (s.modValve v f).valves.map (fun (v, x) => (v, x.st)) = s.valves.map fun (v, x) => (v, x.st) :=
    tabMod_map _ _ _ _ fun a => by simp [(h a).1]
  have h2 : (s.modValve v f).positions = s.positions :=
    tabMod_map _ _ _ _ fun a => by simp [(h a).2.1, (h a).2.2]
  simp only [State.kept, State.image, h1, h2]
  rfl

theorem State.modVol_kept (s : State) (v : Nat) (f : ValveVol → ValveVol)
    (h : ∀ x, (f x).reported = x.reported ∧ (f x).accepted = x.accepted) : (s.modVol v f).kept = s.kept :=
  State.modValve_kept s v _ fun x => ⟨rfl, (h x.vol).1, (h x.vol).2⟩

/-- A change of every valve's volatile record that leaves the positions. -/
theorem State.mapValves_kept (s : State) (f : Nat × Valve → Nat × Valve)
    (h : ∀ e, (f e).1 = e.1 ∧ (f e).2.st = e.2.st ∧ (f e).2.vol.reported = e.2.vol.reported ∧
      (f e).2.vol.accepted = e.2.vol.accepted) : ({ s with valves := s.valves.map f } : State).kept = s.kept := by
  simp only [State.kept, State.image, State.positions, State.samples, List.map_map]
  congr 2
  · exact List.map_congr_left fun e _ => by simp [(h e).1, (h e).2.1]
  · funext e; simp [(h e).1, (h e).2.2.1, (h e).2.2.2]

theorem State.mapPoints_kept (s : State) (f : Nat × Point → Nat × Point)
    (h : ∀ e, (f e).1 = e.1 ∧ (f e).2.asg = e.2.asg ∧ (f e).2.ring = e.2.ring ∧ (f e).2.bad = e.2.bad) :
    ({ s with points := s.points.map f } : State).kept = s.kept := by
  simp only [State.kept, State.image, State.positions, State.samples, List.map_map]
  congr 2
  · exact List.map_congr_left fun e _ => by simp [(h e).1, (h e).2.1]
  · funext e; simp [(h e).1, (h e).2.2.1, (h e).2.2.2]

/-- A change of all zones that leaves their records. -/
theorem State.mapZones_kept (s : State) (f : Zone → Zone) (h : ∀ z, (f z).record = z.record) :
    ({ s with zones := s.zones.map f } : State).kept = s.kept := by
  have : (s.zones.map f).map (·.record) = s.zones.map (·.record) := by
    apply Vector.ext; intro k hk; simp [h]
  simp only [State.kept, State.image, this, State.positions, State.samples]

/-- A change of all lines that leaves their poll rings and rounds. -/
theorem State.mapLines_kept (s : State) (f : Line → Line) (h : ∀ x, (f x).poll = x.poll) :
    ({ s with lines := s.lines.map f } : State).kept = s.kept := by
  have : (s.lines.map f).map Line.poll = s.lines.map Line.poll := by
    apply Vector.ext; intro k hk; simp [h]
  simp only [State.kept, State.image, this, State.positions, State.samples]

theorem foldl_kept {α : Type} (l : List α) (f : State → α → State) (h : ∀ s a, (f s a).kept = s.kept) (s : State) :
    (l.foldl f s).kept = s.kept := by
  induction l generalizing s with
  | nil => rfl
  | cons a rest ih => simp [ih, h]

/-! ### Flags -/

@[simp] theorem State.raiseInc_kept (s : State) (i : Fin 16) (k : IncFlag) : (s.raiseInc i k).kept = s.kept := by
  unfold State.raiseInc
  rw [State.modPorts_kept _ _ fun p => by simp]
  rfl

@[simp] theorem State.raiseDev_kept (s : State) (k : DevFlag) : (s.raiseDev k).kept = s.kept :=
  State.modPorts_kept _ _ fun p => by simp

@[simp] theorem State.raiseIncs_kept (s : State) (i : Fin 16) (ks : List IncFlag) : (s.raiseIncs i ks).kept = s.kept :=
  foldl_kept _ _ (fun _ _ => by simp) s

@[simp] theorem State.kickPorts_kept (s : State) : s.kickPorts.kept = s.kept := State.modPorts_kept _ _ fun p => by simp

@[simp] theorem State.refreshOrphans_kept (s : State) : s.refreshOrphans.kept = s.kept := by
  unfold State.refreshOrphans
  split
  · rfl
  · dsimp only; split
    · rw [State.raiseDev_kept]; rfl
    · rfl

/-! ### Planning and reports -/

@[simp] theorem State.setMotion_kept (s : State) (v : Nat) (m : MotionState) : (s.setMotion v m).kept = s.kept :=
  State.modVol_kept _ _ _ fun _ => ⟨rfl, rfl⟩

@[simp] theorem State.modStep_kept (s : State) (i : Fin 16) (v : Nat) (f : Step → Step) :
    (s.modStep i v f).kept = s.kept := rfl

@[simp] theorem State.setStep_kept (s : State) (i : Fin 16) (v : Nat) (x : StepState) (c : Option FailCause) :
    (s.setStep i v x c).kept = s.kept := rfl

@[simp] theorem State.addWaiting_kept (s : State) (v : Nat) (w : Waiting) : (s.addWaiting v w).kept = s.kept :=
  State.modVol_kept _ _ _ fun x => by split <;> exact ⟨rfl, rfl⟩

@[simp] theorem State.dropWaiting_kept (s : State) (v : Nat) (w : Waiting) : (s.dropWaiting v w).kept = s.kept :=
  State.modVol_kept _ _ _ fun _ => ⟨rfl, rfl⟩

@[simp] theorem State.withdrawRelease_kept (s : State) (v : Nat) : (s.withdrawRelease v).kept = s.kept :=
  State.modVol_kept _ _ _ fun _ => ⟨rfl, rfl⟩

@[simp] theorem State.leaveHold_kept (s : State) (i : Fin 16) (v : Nat) : (s.leaveHold i v).kept = s.kept :=
  State.modVol_kept _ _ _ fun _ => ⟨rfl, rfl⟩

@[simp] theorem State.listRestore_kept (s : State) (i : Fin 16) (t v : Nat) : (s.listRestore i t v).kept = s.kept := by
  simp [State.listRestore]

@[simp] theorem State.beginComp_kept (s : State) : s.beginComp.kept = s.kept := by
  unfold State.beginComp; split <;> rfl

@[simp] theorem State.enqueue_kept (s : State) (i : Fin 16) : (s.enqueue i).kept = s.kept := by
  unfold State.enqueue; rw [State.beginComp_kept]; rfl

@[simp] theorem State.planningRequest_kept (s : State) (i : Fin 16) : (s.planningRequest i).kept = s.kept := by
  unfold State.planningRequest; split
  · rfl
  · split
    · rfl
    · simp

@[simp] theorem State.dropEntry_kept (s : State) (i : Fin 16) : (s.dropEntry i).kept = s.kept := rfl

@[simp] theorem State.enterPlanFailed_kept (s : State) (i : Fin 16) (f : Failure) :
    (s.enterPlanFailed i f).kept = s.kept := by simp [State.enterPlanFailed]

@[simp] theorem State.enterReplanning_kept (s : State) (i : Fin 16) : (s.enterReplanning i).kept = s.kept := by
  simp [State.enterReplanning]

@[simp] theorem State.trigger_kept (s : State) (i : Fin 16) (v : Nat) (k : TriggerKind) :
    (s.trigger i v k).kept = s.kept := by
  unfold State.trigger
  dsimp only
  repeat' split
  all_goals simp

@[simp] theorem State.reportStep_kept (s : State) (i : Fin 16) (t v : Nat) (r : StepReport) :
    (s.reportStep i t v r).kept = s.kept := by
  unfold State.reportStep
  repeat' split
  all_goals simp

/-! ### Queues -/

@[simp] theorem Line.hand_poll (x : Line) (v : Nat) (c : Cmd) : (x.hand v c).poll = x.poll := by
  unfold Line.hand; dsimp only; repeat' split
  all_goals rfl

@[simp] theorem Line.rehand_poll (x : Line) (f : Nat → Cmd → Cmd) : (x.rehand f).poll = x.poll := by
  unfold Line.rehand
  have h : ∀ (l : List Entry) (y : Line), (l.foldl (fun y e => y.hand e.valve (f e.valve e.cmd)) y).poll = y.poll := by
    intro l
    induction l with
    | nil => intro y; rfl
    | cons e rest ih => intro y; simp [ih]
  rw [h]; rfl

@[simp] theorem State.hand_kept (s : State) (l : Fin 4) (v : Nat) (c : Cmd) : (s.hand l v c).kept = s.kept :=
  State.modLine_kept _ _ _ fun x => by simp

@[simp] theorem State.rehand_kept (s : State) (l : Fin 4) : (s.rehand l).kept = s.kept :=
  State.modLine_kept _ _ _ fun x => by simp

@[simp] theorem State.modLine_dropMoves_kept (s : State) (l : Fin 4) (v : Nat) (p : Cmd → Bool) :
    (s.modLine l fun x => x.dropMoves v p).kept = s.kept := State.modLine_kept _ _ _ fun _ => rfl

@[simp] theorem State.modLine_dropValve_kept (s : State) (l : Fin 4) (v : Nat) :
    (s.modLine l fun x => x.dropValve v).kept = s.kept := State.modLine_kept _ _ _ fun _ => rfl

@[simp] theorem State.barQueued_kept (s : State) (v : Nat) (p : Cmd → Bool) : (s.barQueued v p).kept = s.kept := by
  unfold State.barQueued; split
  · rfl
  · dsimp only; split <;> simp

/-! ### The motion executor -/

@[simp] theorem State.setSlot_kept (s : State) (l j : Fin 4) (m : Option Motion) : (s.setSlot l j m).kept = s.kept :=
  State.modLine_kept _ _ _ fun _ => rfl

@[simp] theorem State.modMotion_kept (s : State) (l j : Fin 4) (f : Motion → Motion) :
    (s.modMotion l j f).kept = s.kept := by simp [State.modMotion]

@[simp] theorem State.handMove_kept (s : State) (l : Fin 4) (v target speed : Nat) (d : Dir) :
    (s.handMove l v target speed d).kept = s.kept := by
  unfold State.handMove; split <;> simp

@[simp] theorem State.askAllowance_kept (s : State) (v : Nat) : (s.askAllowance v).kept = s.kept :=
  State.modZone_kept _ _ _ fun x => by split <;> rfl

@[simp] theorem State.dropRequest_kept (s : State) (v : Nat) : (s.dropRequest v).kept = s.kept :=
  State.modZone_kept _ _ _ fun _ => rfl

@[simp] theorem State.giveBack_kept (s : State) (v : Nat) : (s.giveBack v).kept = s.kept :=
  State.modZone_kept _ _ _ fun _ => rfl

@[simp] theorem State.leaveStopped_kept (s : State) (v : Nat) (o : Owner) : (s.leaveStopped v o).kept = s.kept :=
  State.modZone_kept _ _ _ fun _ => rfl

@[simp] theorem State.endMotion_kept (s : State) (l j : Fin 4) (v : Nat) : (s.endMotion l j v).kept = s.kept := by
  have h (t : State) : (t.modLine l fun x => ({ x with slots := x.slots.set j none } : Line).dropKeptMoves v).kept = t.kept :=
    State.modLine_kept _ _ _ fun _ => rfl
  unfold State.endMotion; dsimp only; split <;> simp [h]

@[simp] theorem State.endShadows_kept (s : State) (v : Nat) (r : StepReport) : (s.endShadows v r).kept = s.kept :=
  foldl_kept _ _ (fun s i => by
    split
    · split <;> simp
    · rfl) s

@[simp] theorem State.reportOwner_kept (s : State) (m : Motion) (r : StepReport) : (s.reportOwner m r).kept = s.kept := by
  unfold State.reportOwner; split <;> simp

@[simp] theorem State.markReleased_kept (s : State) (m : Motion) : (s.markReleased m).kept = s.kept := by
  unfold State.markReleased; split
  · rfl
  · exact State.modVol_kept _ _ _ fun _ => ⟨rfl, rfl⟩

@[simp] theorem State.complete_kept (s : State) (l j : Fin 4) (m : Motion) : (s.complete l j m).kept = s.kept := by
  unfold State.complete; dsimp only; split <;> simp

@[simp] theorem State.fail_kept (s : State) (l j : Fin 4) (m : Motion) (c : FailCause) : (s.fail l j m c).kept = s.kept := by
  unfold State.fail; dsimp only; split <;> simp

@[simp] theorem State.failMover_kept (s : State) (v : Nat) (c : FailCause) : (s.failMover v c).kept = s.kept := by
  unfold State.failMover; split <;> simp

@[simp] theorem State.startClosing_kept (s : State) (l j : Fin 4) (m : Motion) (b : Bool) :
    (s.startClosing l j m b).kept = s.kept := by
  unfold State.startClosing; split
  · rfl
  · dsimp only; repeat' split
    all_goals simp

@[simp] theorem State.startOpening_kept (s : State) (l : Fin 4) (m : Motion) : (s.startOpening l m).kept = s.kept := by
  unfold State.startOpening; repeat' split
  all_goals simp

@[simp] theorem State.grantAllowance_kept (s : State) (v : Nat) : (s.grantAllowance v).kept = s.kept := by
  have h (t : State) (z : Fin 8) : (t.modZone z fun y => { y with holders := y.holders ++ [v] }).kept = t.kept :=
    State.modZone_kept _ _ _ fun _ => rfl
  unfold State.grantAllowance; dsimp only; repeat' split
  all_goals simp [h]

@[simp] theorem State.reverse_kept (s : State) (l j : Fin 4) (m : Motion) : (s.reverse l j m).kept = s.kept := by
  unfold State.reverse; dsimp only; repeat' split
  all_goals simp

@[simp] theorem State.guardRest_kept (s : State) (l j : Fin 4) (m : Motion) : (s.guardRest l j m).kept = s.kept := by
  unfold State.guardRest; dsimp only; repeat' split
  all_goals simp

@[simp] theorem State.stopRest_kept (s : State) (l j : Fin 4) (m : Motion) (k : StopKind) :
    (s.stopRest l j m k).kept = s.kept := by
  unfold State.stopRest; dsimp only; repeat' split
  all_goals simp

@[simp] theorem State.atRest_kept (s : State) (l j : Fin 4) (m : Motion) : (s.atRest l j m).kept = s.kept := by
  unfold State.atRest; split <;> simp

@[simp] theorem State.cameToRest_kept (s : State) (v : Nat) : (s.cameToRest v).kept = s.kept := by
  unfold State.cameToRest; repeat' split
  all_goals simp

@[simp] theorem State.stopMotion_kept (s : State) (l j : Fin 4) (m : Motion) (k : StopKind) :
    (s.stopMotion l j m k).kept = s.kept := by
  unfold State.stopMotion; dsimp only; repeat' split
  all_goals simp

@[simp] theorem State.stopMovers_kept (s : State) (i : Fin 16) (k : StopKind) : (s.stopMovers i k).kept = s.kept := by
  unfold State.stopMovers; split
  · rfl
  · exact foldl_kept _ _ (fun s a => by dsimp only; split <;> simp) s

@[simp] theorem State.reversalFor_kept (s : State) (i : Fin 16) (v : Nat) : (s.reversalFor i v).kept = s.kept := by
  unfold State.reversalFor; dsimp only; repeat' split
  all_goals simp

@[simp] theorem State.joinHold_kept (s : State) (i : Fin 16) (v : Nat) : (s.joinHold i v).kept = s.kept := by
  have h (t : State) : (t.modVol v fun x => { x with holds := setInsert x.holds i }).kept = t.kept :=
    State.modVol_kept _ _ _ fun _ => ⟨rfl, rfl⟩
  unfold State.joinHold; dsimp only; split <;> simp [h]

@[simp] theorem State.joinAll_kept (s : State) (i : Fin 16) (vs : List Nat) : (s.joinAll i vs).kept = s.kept :=
  foldl_kept _ _ (fun _ _ => by simp) s

@[simp] theorem State.reachedTarget_kept (s : State) (v : Nat) : (s.reachedTarget v).kept = s.kept := by
  unfold State.reachedTarget; repeat' split
  all_goals simp

@[simp] theorem State.reachedClosed_kept (s : State) (v : Nat) : (s.reachedClosed v).kept = s.kept := by
  unfold State.reachedClosed; repeat' split
  all_goals simp

@[simp] theorem State.reachedOpen_kept (s : State) (v : Nat) : (s.reachedOpen v).kept = s.kept := by
  unfold State.reachedOpen; repeat' split
  all_goals simp

@[simp] theorem State.enterFault_kept (s : State) (l : Fin 4) (v : Nat) (m : MotionState) (c : FailCause) :
    (s.enterFault l v m c).kept = s.kept := by simp [State.enterFault]

@[simp] theorem State.enterUnresponsive_kept (s : State) (l : Fin 4) (v : Nat) :
    (s.enterUnresponsive l v).kept = s.kept := by
  have h : (s.modVol v fun x => { x.breakChain.lapse with motion := .unresponsive }).kept = s.kept :=
    State.modVol_kept _ _ _ fun x => by
      unfold ValveVol.lapse; split <;> exact ⟨rfl, rfl⟩
  simp [State.enterUnresponsive, h]

@[simp] theorem State.trip_kept (s : State) (z : Fin 8) (p : Nat) : (s.trip z p).kept = s.kept := by
  unfold State.trip
  dsimp only
  rw [foldl_kept _ _ fun s i => by split <;> simp]
  rw [foldl_kept _ _ fun s a => by simp]
  exact State.modZone_kept _ _ _ fun _ => rfl

@[simp] theorem State.halveStopped_kept (s : State) (e : Stopped) : (s.halveStopped e).kept = s.kept := by
  unfold State.halveStopped; repeat' split
  all_goals simp

@[simp] theorem State.clearGuard_kept (s : State) (z : Fin 8) : (s.clearGuard z).kept = s.kept := by
  unfold State.clearGuard
  dsimp only
  rw [foldl_kept _ _ fun s e => by split <;> simp]
  rw [foldl_kept _ _ fun s e => by simp]
  exact State.modZone_kept _ _ _ fun _ => rfl

@[simp] theorem State.guardSample_kept (s : State) (p rating : Nat) (z : Fin 8) (pressure : Nat) :
    (s.guardSample p rating z pressure).kept = s.kept := by
  have h (n : Nat) : (s.modZone z fun y => { y with clearCount := n }).kept = s.kept :=
    State.modZone_kept _ _ _ fun _ => rfl
  have h2 : (s.modZone z fun y => { y with clearCount := y.clearCount + 1 }).kept = s.kept :=
    State.modZone_kept _ _ _ fun _ => rfl
  unfold State.guardSample; repeat' split
  all_goals simp [h, h2]

/-! ### Waves, isolation and restore -/

@[simp] theorem State.takeUp_kept (s : State) (i : Fin 16) (v : Nat) : (s.takeUp i v).kept = s.kept := by
  unfold State.takeUp; dsimp only; repeat' split
  all_goals simp

@[simp] theorem State.takeUpWave_kept (s : State) (i : Fin 16) (w : Nat) : (s.takeUpWave i w).kept = s.kept :=
  foldl_kept _ _ (fun s v => by split <;> simp) s

@[simp] theorem State.advance_kept (s : State) (i : Fin 16) : (s.advance i).kept = s.kept := by
  unfold State.advance; dsimp only; repeat' split
  all_goals simp

@[simp] theorem State.forgetTenancy_kept (s : State) (i : Fin 16) : (s.forgetTenancy i).kept = s.kept := by
  unfold State.forgetTenancy
  split
  · rfl
  · rename_i t _
    exact (State.mapLines_kept { s with zones := _ } (·.keepStepNos (.step i t) (s.inc i)) fun _ => rfl).trans
      (State.mapZones_kept s (·.forgetOwner (.step i t)) fun _ => rfl)

@[simp] theorem State.freeSlot_kept (s : State) (i : Fin 16) : (s.freeSlot i).kept = s.kept := by
  have h1 (t : State) : ({ t with valves := t.valves.map fun (v, x) => (v, { x with vol := x.vol.forgetSlot i }) } : State).kept
      = t.kept := State.mapValves_kept _ _ fun _ => ⟨rfl, rfl, rfl, rfl⟩
  unfold State.freeSlot
  rw [State.modInc_kept]
  exact (h1 _).trans ((State.forgetTenancy_kept _ i).trans (State.dropEntry_kept s i))

@[simp] theorem State.endTenancy_kept (s : State) (i : Fin 16) (k : IncFlag) : (s.endTenancy i k).kept = s.kept := by
  simp [State.endTenancy]

@[simp] theorem State.enterClosing_kept (s : State) (i : Fin 16) (b : Bool) : (s.enterClosing i b).kept = s.kept := by
  unfold State.enterClosing; dsimp only; split <;> simp

@[simp] theorem State.awaitConcurrence_kept (s : State) (i : Fin 16) : (s.awaitConcurrence i).kept = s.kept := by
  simp [State.awaitConcurrence]

@[simp] theorem State.startWatch_kept (s : State) (i : Fin 16) : (s.startWatch i).kept = s.kept := by
  unfold State.startWatch; dsimp only; split <;> simp

@[simp] theorem State.isolate_kept (s : State) (i : Fin 16) : (s.isolate i).kept = s.kept := by simp [State.isolate]

@[simp] theorem State.enterConfirmed_kept (s : State) (i : Fin 16) : (s.enterConfirmed i).kept = s.kept := by
  simp [State.enterConfirmed]

@[simp] theorem State.watchSample_kept (s : State) (seg : Nat) (i : Fin 16) : (s.watchSample seg i).kept = s.kept := by
  unfold State.watchSample; dsimp only; repeat' split
  all_goals simp

@[simp] theorem State.beginRestore_kept (s : State) (i : Fin 16) : (s.beginRestore i).kept = s.kept := by
  unfold State.beginRestore; dsimp only; split <;> simp

/-! ### Settling -/

@[simp] theorem State.moveLineCursor_kept (s : State) (l : Fin 4) (i : Fin 16) : (s.moveLineCursor l i).kept = s.kept := by
  exact State.modLine_kept _ _ _ fun _ => rfl

@[simp] theorem State.takeSlot_kept (s : State) (l j : Fin 4) (o : Owner) (v : Nat) (d : Dir) (f : Option Figures) :
    (s.takeSlot l j o v d f).1.kept = s.kept := by
  exact (State.setSlot_kept _ l j _).trans (State.modVol_kept s v _ fun _ => ⟨rfl, rfl⟩)

@[simp] theorem State.grantClosing_kept (s : State) (l j : Fin 4) (w : Work) : (s.grantClosing l j w).kept = s.kept := by
  unfold State.grantClosing; dsimp only; repeat' split
  all_goals simp

@[simp] theorem State.grantRestore_kept (s : State) (l j : Fin 4) (w : Work) : (s.grantRestore l j w).kept = s.kept := by
  unfold State.grantRestore; dsimp only; repeat' split
  all_goals simp

@[simp] theorem State.grantRelease_kept (s : State) (l j : Fin 4) (w : Work) : (s.grantRelease l j w).kept = s.kept := by
  unfold State.grantRelease; dsimp only; repeat' split
  all_goals simp

@[simp] theorem State.moveZoneCursor_kept (s : State) (z : Fin 8) (w : Work) : (s.moveZoneCursor z w).kept = s.kept := by
  unfold State.moveZoneCursor; split
  · exact State.modZone_kept _ _ _ fun _ => rfl
  · exact State.modZone_kept _ _ _ fun _ => rfl
  · rfl

@[simp] theorem State.becomeStopped_kept (s : State) (l : Fin 4) : (s.becomeStopped l).kept = s.kept := by
  unfold State.becomeStopped
  rw [State.raiseDev_kept]
  rw [← State.modLine_kept s l (fun x => { x with state := .stopped, txn := none, furtherDue := false, queue := [], kept := [] })
    fun _ => rfl]
  generalize s.modLine l (fun x => { x with state := .stopped, txn := none, furtherDue := false, queue := [], kept := [] }) = t
  refine (State.mapPoints_kept { t with valves := _ } _ fun e => ?_).trans (State.mapValves_kept t _ fun e => ?_)
  · dsimp only; split <;> exact ⟨rfl, rfl, rfl, rfl⟩
  · dsimp only; unfold ValveVol.lapse; repeat' split
    all_goals exact ⟨rfl, rfl, rfl, rfl⟩

@[simp] theorem State.send_kept (s : State) (l : Fin 4) (a : Nat) (k : TxnKind) (v : Bool) :
    (s.send l a k v).kept = s.kept := State.modLine_kept _ _ _ fun _ => rfl

@[simp] theorem State.pollVisit_kept (s : State) (l : Fin 4) : (s.pollVisit l).kept = s.kept := by
  have h (a : Nat) : (s.modLine l fun x => { x with cursor := some a, furtherDue := false }).kept = s.kept :=
    State.modLine_kept _ _ _ fun _ => rfl
  unfold State.pollVisit; split <;> simp [h]

@[simp] theorem State.returnBarred_kept (s : State) (l : Fin 4) (e : Entry) (d : Dir) :
    (s.returnBarred l e d).kept = s.kept := by
  have h : (s.modLine l fun x => { x with queue := x.queue.drop 1 }).kept = s.kept := State.modLine_kept _ _ _ fun _ => rfl
  unfold State.returnBarred; dsimp only; split
  · rw [State.rehand_kept, h]
  · rw [State.rehand_kept, State.failMover_kept, h]

@[simp] theorem State.nextTxn_kept (s : State) (l : Fin 4) : (s.nextTxn l).kept = s.kept := by
  have h (j : Fin 4) : (s.modLine l fun x => { x with rotation := j }).kept = s.kept := State.modLine_kept _ _ _ fun _ => rfl
  unfold State.nextTxn; dsimp only; repeat' split
  all_goals simp [h]

theorem State.slotGrant?_kept {s t : State} {l : Fin 4} (h : s.slotGrant? l = some t) : t.kept = s.kept := by
  unfold State.slotGrant? at h
  repeat' split at h
  all_goals first
    | (simp only [Option.some.injEq] at h; subst h; simp)
    | simp at h

/-- A due thing that is found was found first, or by the rest. -/
theorem found_or {α : Type} {a : Option α} {b : Unit → Option α} {c : α} (h : a.orElse b = some c) :
    a = some c ∨ b () = some c := by
  cases a with
  | none => exact .inr h
  | some x => exact .inl h

@[simp] theorem State.failOffLine_kept (s : State) (ws : List Work) : (s.failOffLine ws).kept = s.kept :=
  foldl_kept _ _ (fun _ _ => by simp) s

/-- Everything that can be due, one case for each kind. -/
theorem State.due?_cases {s t : State} (h : s.due? = some t) :
    s.advance? = some t ∨ s.lineRule? = some t ∨ (∃ l, s.slotGrant? l = some t) ∨ s.isolate? = some t ∨
      s.restoreEnd? = some t ∨ (∃ z, s.allowanceGrant? z = some t) ∨ s.stopped? = some t ∨ s.transact? = some t := by
  unfold State.due? at h
  have wires := (found_or h).imp_left found_or
  rcases wires with (h | stop) | wire
  · have ends := (found_or h).imp_left found_or
    rcases ends with (h | finish) | allow
    · have grants := (found_or h).imp_left found_or
      rcases grants with (h | grant) | closed
      · exact (found_or h).elim .inl fun rule => .inr (.inl rule)
      · obtain ⟨l, -, g⟩ := List.exists_of_findSome?_eq_some grant
        exact .inr (.inr (.inl ⟨l, g⟩))
      · simp [closed]
    · simp [finish]
    · obtain ⟨z, -, g⟩ := List.exists_of_findSome?_eq_some allow
      exact .inr (.inr (.inr (.inr (.inr (.inl ⟨z, g⟩)))))
  · simp [stop]
  · simp [wire]

/-- What falls due leaves `Kept` alone. -/
theorem State.due?_kept {s t : State} (h : s.due? = some t) : t.kept = s.kept := by
  rcases State.due?_cases h with h | h | ⟨l, h⟩ | h | h | ⟨z, h⟩ | h | h
  · simp only [State.advance?, Option.map_eq_some_iff] at h; obtain ⟨i, _, rfl⟩ := h; simp
  · simp only [State.lineRule?] at h
    split at h
    · cases h
    · cases h; simp
  · exact State.slotGrant?_kept h
  · simp only [State.isolate?, Option.map_eq_some_iff] at h; obtain ⟨i, _, rfl⟩ := h; simp
  · simp only [State.restoreEnd?, Option.map_eq_some_iff] at h; obtain ⟨i, _, rfl⟩ := h; simp
  · simp only [State.allowanceGrant?, Option.map_eq_some_iff] at h; obtain ⟨i, _, rfl⟩ := h; simp
  · simp only [State.stopped?, Option.map_eq_some_iff] at h; obtain ⟨i, _, rfl⟩ := h; simp
  · simp only [State.transact?, Option.map_eq_some_iff] at h; obtain ⟨i, _, rfl⟩ := h; simp

/-- A property that everything due keeps, with the orphan count that follows it, settling keeps. -/
theorem settleFor_induct {P : State → Prop} (h : ∀ {s t}, P s → s.due? = some t → P t.refreshOrphans) (n : Nat)
    {s : State} (hs : P s) :
    P (settleFor n s) := by
  induction n generalizing s with
  | zero => exact hs
  | succ n ih =>
    simp only [settleFor]
    split
    · exact hs
    · rename_i t ht; exact ih (h hs ht)

@[simp] theorem State.settle_kept (s : State) : s.settle.kept = s.kept :=
  settleFor_induct (P := fun t => t.kept = s.kept) (fun {_ t} hs ht => t.refreshOrphans_kept.trans ((State.due?_kept ht).trans hs)) _
    s.refreshOrphans_kept

/-- All that falls due after a command's own effect leaves `Kept` alone. -/
@[simp] theorem State.finish_kept (s : State) : s.finish.kept = s.kept := by simp [State.finish]

end Sys2Proof.Machine
end

