-- ==== Sys2Proof/Laws/Requests.lean ====
section
/-! SUPPORT. The admission of a request, said once: what a link that takes it does with it, and what a reply made by its rule
leaves (R182, R185 to R187). -/

namespace Sys2Proof.Machine

open Sys2Proof

@[simp] theorem countErrors_zero (n : Nat) : countErrors n 0 = n := rfl

/-- A request of a listed kind, of the right length, on a link that takes it and has the right: its rule runs. -/
theorem State.onRequest_ready {s : State} {i : Instr} {h : Hdr} (hr : s.ready i h) (rule : State → State)
    (hc : 1 ≤ i.code?.getD 0 ∧ i.code?.getD 0 ≤ 40) :
    s.onRequest i h true rule = .next (rule (s.holding i h)) := by
  obtain ⟨⟨h1, h2, h3⟩, h4, h5⟩ := hr
  have h6 : requestEvents h.len = [.marker, .goodEnd] := by simp [requestEvents, h4]; omega
  have h7 : s.modPort h.link (fun p => { p with rx := .idle, errors := countErrors p.errors 0 }) = s := by
    apply State.modPort_id
    simp [← h1]
  have h9 : ¬ (i.code?.getD 0 = 0 ∨ 40 < i.code?.getD 0) := by omega
  have h8 : rxRun .idle (requestEvents h.len) = (.idle, 0) := by rw [h6]; rfl
  simp only [State.onRequest, State.admission, h1, h8, h7, h3, State.holding, heldAs]
  simp [h4, h5, h9, Nat.not_le.mpr h2]

/-- The reply of a rule that runs on the state holding the request is the reply of the state before. -/
theorem State.reply_holding {s : State} {i : Instr} {h : Hdr} (hr : (s.port h.link).slot = none) (o : Out)
    (items : List Item) : (s.holding i h).reply h.link o items = s.answers i h o items := by
  unfold State.holding heldAs State.reply State.answers
  rw [State.modPort_modPort]
  apply State.modPort_congr
  simp only [replyTo]
  generalize s.port h.link = p at *
  cases p; simp_all

@[simp] theorem State.refuse_eq (s : State) (l : Link) (o : Out) : s.refuse l o = s.reply l o [] := rfl

/-- A reply made leaves everything of `Kept` but its link's slot and replies. -/
theorem State.modPort_kept (s : State) (l : Link) (f : Port → Port) (h : (f (s.port l)).kept = (s.port l).kept) :
    (s.modPort l f).kept = s.kept := by
  cases l <;>
    simp only [State.kept, State.modPort, State.image, State.positions, State.samples, State.port] at * <;> rw [h]

theorem State.answers_kept (s : State) (i : Instr) (h : Hdr) (o : Out) (items : List Item) :
    (s.answers i h o items).kept = s.kept.answered h.link (replyTo i h o items) := by
  unfold State.answers
  cases h.link <;>
    simp only [State.kept, State.modPort, State.image, State.positions, State.samples, Port.post_kept, Kept.answered]

/-! ## The state that holds a request differs in its link's slot alone -/

section
variable (s : State) (i : Instr) (h : Hdr)

@[simp] theorem State.holding_device : (s.holding i h).device = s.device := by simp [State.holding]
@[simp] theorem State.holding_segs : (s.holding i h).segs = s.segs := by simp [State.holding]
@[simp] theorem State.holding_valves : (s.holding i h).valves = s.valves := by simp [State.holding]
@[simp] theorem State.holding_zones : (s.holding i h).zones = s.zones := by simp [State.holding]
@[simp] theorem State.holding_feeds : (s.holding i h).feeds = s.feeds := by simp [State.holding]
@[simp] theorem State.holding_points : (s.holding i h).points = s.points := by simp [State.holding]
@[simp] theorem State.holding_revision : (s.holding i h).revision = s.revision := by simp [State.holding]
@[simp] theorem State.holding_rules : (s.holding i h).rules = s.rules := by simp [State.holding]
@[simp] theorem State.holding_groups : (s.holding i h).groups = s.groups := by simp [State.holding]
@[simp] theorem State.holding_store : (s.holding i h).store = s.store := by simp [State.holding]
@[simp] theorem State.holding_lines : (s.holding i h).lines = s.lines := by simp [State.holding]
@[simp] theorem State.holding_locks : (s.holding i h).locks = s.locks := by simp [State.holding]
@[simp] theorem State.holding_planner : (s.holding i h).planner = s.planner := by simp [State.holding]
@[simp] theorem State.holding_incidents : (s.holding i h).incidents = s.incidents := by simp [State.holding]
@[simp] theorem State.holding_tagCounter : (s.holding i h).tagCounter = s.tagCounter := by simp [State.holding]
@[simp] theorem State.holding_orphanCount : (s.holding i h).orphanCount = s.orphanCount := by simp [State.holding]
@[simp] theorem State.holding_releaseCount : (s.holding i h).releaseCount = s.releaseCount := by simp [State.holding]
@[simp] theorem State.holding_grantMode : (s.holding i h).grantMode = s.grantMode := by simp [State.holding]
@[simp] theorem State.holding_now : (s.holding i h).now = s.now := by simp [State.holding]
@[simp] theorem State.holding_pending : (s.holding i h).pending = s.pending := by simp [State.holding]
@[simp] theorem State.holding_openChecks : (s.holding i h).openChecks = s.openChecks := by simp [State.holding]
@[simp] theorem State.holding_read_inc (k) : (s.holding i h).inc k = s.inc k := by simp [State.inc]
@[simp] theorem State.holding_read_line (k) : (s.holding i h).line k = s.line k := by simp [State.line]
@[simp] theorem State.holding_read_zone (k) : (s.holding i h).zone k = s.zone k := by simp [State.zone]
@[simp] theorem State.holding_read_seg (k) : (s.holding i h).seg? k = s.seg? k := by simp [State.seg?]
@[simp] theorem State.holding_read_valve (k) : (s.holding i h).valve? k = s.valve? k := by simp [State.valve?]
@[simp] theorem State.holding_read_point (k) : (s.holding i h).point? k = s.point? k := by simp [State.point?]
@[simp] theorem State.holding_tenancy (k t) : (s.holding i h).tenancy k t = s.tenancy k t := by simp [State.tenancy]
@[simp] theorem State.holding_plannerBusy : (s.holding i h).plannerBusy = s.plannerBusy := by simp [State.plannerBusy]
@[simp] theorem State.holding_imageWriting : (s.holding i h).imageWriting = s.imageWriting := by simp [State.imageWriting]
@[simp] theorem State.holding_anyInUse : (s.holding i h).anyInUse = s.anyInUse := by simp [State.anyInUse]

end

end Sys2Proof.Machine
end

