-- ==== Sys2Proof/Laws/Sound.lean ====
section
/-! SUPPORT. Tests that a given image, incident table or allowance is sound, entry by entry, and that they say so rightly: for
concrete states. -/

namespace Sys2Proof.Machine

open Sys2Proof

theorem tabGet_mem {α : Type} {l : List (Nat × α)} {k : Nat} {x : α} (h : tabGet l k = some x) : (k, x) ∈ l := by
  induction l with
  | nil => simp [tabGet] at h
  | cons e rest ih =>
    obtain ⟨j, a⟩ := e
    simp only [tabGet] at h
    split at h
    · subst_vars; simp at h; simp [h]
    · exact List.mem_cons_of_mem _ (ih h)

/-- `Image.shaped`, checked over the lists. -/
def Image.shapedB (x : Image) : Bool :=
  tabRising x.segs && tabRising x.valves && tabRising x.points &&
    x.segs.all (fun (n, y) => decide (n < 1024) && decide (1 ≤ y.length ∧ y.length ≤ 4000 ∧ 300 ≤ y.celerity ∧
      y.celerity ≤ 1400 ∧ 400 ≤ y.rating ∧ y.rating ≤ 2500 ∧ 50 ≤ y.diameter ∧ y.diameter ≤ 1200)) &&
    x.valves.all (fun (v, y) => decide (v < 768) && decide (1 ≤ y.addr ∧ y.addr ≤ 192 ∧ 50 ≤ y.size ∧ y.size ≤ 1200 ∧
      1 ≤ y.turns ∧ y.turns ≤ 1500 ∧ 1 ≤ y.minSpeed ∧ y.minSpeed ≤ y.maxSpeed ∧ y.maxSpeed ≤ 60 ∧ y.velocity ≤ 3000)) &&
    x.points.all (fun (k, y) => decide (k < 128 ∧ 200 ≤ y.addr ∧ y.addr ≤ 231)) &&
    allEight.all (fun z => let y := x.zones.get z
      decide (100 ≤ y.nominal ∧ y.nominal ≤ 1000 ∧ y.drained ≤ 200 ∧ 60 ≤ y.window ∧ y.window ≤ 3600 ∧ 1 ≤ y.allowance ∧
        y.allowance ≤ 4))

/-- Whether a valve's record has a segment as a side. -/
def ValveStatic.hasSideB (st : ValveStatic) (n : Nat) : Bool := decide (st.sideA = n) || decide (st.sideB = some n)

/-- `Image.agrees`, checked over the lists. -/
def Image.agreesB (x : Image) : Bool :=
  x.segs.all (fun (n, y) => decide (y.valves.Nodup ∧ y.valves.length ≤ 12) &&
      y.valves.all (fun v => match tabGet x.valves v with
        | some st => st.hasSideB n
        | none => false) &&
      x.valves.all fun (v, st) => !st.hasSideB n || y.valves.contains v) &&
    x.valves.all (fun (_, st) => decide (st.sideB ≠ some st.sideA) && (tabGet x.segs st.sideA).isSome &&
      match st.sideB with
      | none => true
      | some n => (tabGet x.segs n).isSome) &&
    decide (x.feeds.Nodup ∧ x.feeds.length ≤ 16) && x.feeds.all (fun n => (tabGet x.segs n).isSome) &&
    x.points.all fun (_, a) => (tabGet x.segs a.seg).isSome

/-- `Image.distinct`, checked over the lists. -/
def Image.distinctB (x : Image) : Bool :=
  x.valves.all (fun (v, a) => x.valves.all fun (w, b) => decide (v = w) || decide (¬ (a.line = b.line ∧ a.addr = b.addr))) &&
    x.points.all fun (j, a) => x.points.all fun (k, b) =>
      decide (j = k) || decide (¬ (a.seg = b.seg ∨ (a.line = b.line ∧ a.addr = b.addr)))

/-- `Image.unmixed`, checked. -/
def Image.unmixedB (x : Image) : Bool :=
  decide ((∀ k : Fin 32, (x.rules.get k).stage.mayName (x.rules.get k).test = true ∧ (x.rules.get k).value ≤ 3) ∧
    ∀ g : Fin 16, (x.groups.get g).lead ∈ (x.groups.get g).members ∧
      ((x.groups.get g).enabled = true → (groupStage x.rules (x.groups.get g).members).isSome = true))

theorem mem_allEight (z : Fin 8) : z ∈ allEight := by revert z; decide

theorem Image.shaped_of {x : Image} (h : x.shapedB = true) : x.shaped := by
  simp only [Image.shapedB, Bool.and_eq_true, List.all_eq_true, decide_eq_true_eq] at h
  obtain ⟨⟨⟨⟨⟨⟨h1, h2⟩, h3⟩, h4⟩, h5⟩, h6⟩, h7⟩ := h
  exact ⟨h1, h2, h3, fun n y e => h4 _ (tabGet_mem e), fun v y e => h5 _ (tabGet_mem e), fun k y e => h6 _ (tabGet_mem e),
    fun z => h7 z (mem_allEight z)⟩

theorem ValveStatic.hasSideB_iff (st : ValveStatic) (n : Nat) : st.hasSideB n = true ↔ st.hasSide n := by
  simp [ValveStatic.hasSideB, ValveStatic.hasSide]

theorem Image.agrees_of {x : Image} (h : x.agreesB = true) : x.agrees := by
  simp only [Image.agreesB, Bool.and_eq_true, List.all_eq_true, decide_eq_true_eq] at h
  obtain ⟨⟨⟨⟨h1, h2⟩, h3⟩, h4⟩, h5⟩ := h
  refine ⟨fun n y e => ?_, fun v st e => ?_, ⟨h3.1, h3.2, h4⟩, fun k a e => h5 _ (tabGet_mem e)⟩
  · obtain ⟨⟨a1, a2⟩, a3⟩ := h1 _ (tabGet_mem e)
    refine ⟨a1.1, a1.2, fun v => ⟨fun m => ?_, fun ⟨st, e1, e2⟩ => ?_⟩⟩
    · have a4 := a2 v m
      split at a4
      · rename_i st e1; exact ⟨st, e1, (st.hasSideB_iff n).1 a4⟩
      · exact absurd a4 (by decide)
    · have a5 := a3 _ (tabGet_mem e1)
      rw [Bool.or_eq_true] at a5
      rcases a5 with a5 | a5
      · rw [(st.hasSideB_iff n).2 e2] at a5; exact absurd a5 (by decide)
      · exact List.contains_iff_mem.1 a5
  · obtain ⟨⟨b1, b2⟩, b3⟩ := h2 _ (tabGet_mem e)
    refine ⟨b1, fun n hn => ?_⟩
    rcases hn with rfl | hn
    · exact b2
    · simp only [hn] at b3; exact b3

theorem Image.distinct_of {x : Image} (h : x.distinctB = true) : x.distinct := by
  simp only [Image.distinctB, Bool.and_eq_true, List.all_eq_true, Bool.or_eq_true, decide_eq_true_eq] at h
  refine ⟨fun v w a b e1 e2 hl ha => ?_, fun j k a b e1 e2 hn => ?_⟩
  · exact (h.1 _ (tabGet_mem e1) _ (tabGet_mem e2)).resolve_right fun n => n ⟨hl, ha⟩
  · exact (h.2 _ (tabGet_mem e1) _ (tabGet_mem e2)).resolve_right fun n => n hn

theorem Image.unmixed_of {x : Image} (h : x.unmixedB = true) : x.unmixed := by
  simp only [Image.unmixedB, decide_eq_true_eq] at h
  exact h

/-- An image whose four checks pass is sound. -/
theorem Image.sound_of {x : Image} (h : (x.shapedB && x.agreesB && x.distinctB && x.unmixedB) = true) : x.sound := by
  simp only [Bool.and_eq_true] at h
  obtain ⟨⟨⟨h1, h2⟩, h3⟩, h4⟩ := h
  exact ⟨Image.shaped_of h1, Image.agrees_of h2, Image.distinct_of h3, Image.unmixed_of h4⟩

/-! ## The incident table and the allowance of a concrete state -/

theorem State.motion_slow_mem {s : State} {v : Nat} (h : (s.motion v).isSlow) : ∃ x, (v, x) ∈ s.valves := by
  unfold State.motion State.valve? at h
  cases e : tabGet s.valves v with
  | none => rw [e] at h; rcases h with h | h <;> cases h
  | some x => exact ⟨x, tabGet_mem e⟩

theorem State.holds_mem {s : State} {v : Nat} {i : Fin 16} (h : i ∈ s.holds v) : ∃ x, (v, x) ∈ s.valves := by
  unfold State.holds State.valve? at h
  cases e : tabGet s.valves v with
  | none => rw [e] at h; cases h
  | some x => exact ⟨x, tabGet_mem e⟩

/-- `Incident.sound`, checked. -/
def Incident.soundB (x : Incident) : Bool :=
  decide (x.tag.getD 0 ≤ 65534) && decide (x.excl.length ≤ 16) && decide x.excl.Nodup && decide (x.steps.length ≤ 48) &&
    decide x.stepValves.Nodup && (decide (x.state ≠ .planning) || decide (x.plan = none)) &&
    if x.state = .free then
      decide (x.watch = .idle ∧ x.plan = none ∧ x.excl = [] ∧ x.current = none ∧ x.staged = none ∧ x.failure = none ∧
        x.flags = 0)
    else x.tag.isSome && x.link.isSome && x.burst.isSome

theorem Incident.sound_of {x : Incident} (h : x.soundB = true) : x.sound := by
  simp only [Incident.soundB, Bool.and_eq_true, decide_eq_true_eq, Bool.or_eq_true] at h
  obtain ⟨⟨⟨⟨⟨⟨h1, h2⟩, h3⟩, h4⟩, h5⟩, h6⟩, h7⟩ := h
  refine ⟨fun t e => by simpa [e] using h1, ⟨h2, h3⟩, ⟨h4, h5⟩, fun e => h6.resolve_left fun n => n e, ?_⟩
  split
  · rename_i e; rw [if_pos e, decide_eq_true_eq] at h7; exact h7
  · rename_i e
    rw [if_neg e] at h7
    simp only [Bool.and_eq_true] at h7
    exact ⟨h7.1.1, h7.1.2, h7.2⟩

/-- A state whose incidents, bursts and hold sets check, and whose computation is sound, has a sound incident table. -/
theorem State.incidentsSound_with {s : State}
    (h : (decide (s.tagCounter ≤ 65534) && allSixteen.all (fun i => (s.inc i).soundB) &&
      allSixteen.all (fun i => allSixteen.all fun k =>
        !((s.inc i).inUse && (s.inc k).inUse && decide ((s.inc i).burst = (s.inc k).burst)) || decide (i = k)) &&
      s.valves.all (fun (v, _) => decide (s.holds v).Nodup &&
        (s.holds v).all fun i => (s.inc i).inUse && (s.inc i).stepValves.contains v)) = true)
    (n : ∀ c, s.planner.comp = some c → c.sound) : s.incidentsSound := by
  simp only [Bool.and_eq_true, List.all_eq_true, decide_eq_true_eq, Bool.or_eq_true, Bool.not_eq_true',
    Bool.and_eq_false_iff, decide_eq_false_iff_not] at h
  obtain ⟨⟨⟨h1, h2⟩, h3⟩, h4⟩ := h
  have mem (i : Fin 16) : i ∈ allSixteen := by revert i; decide
  refine ⟨h1, fun i => Incident.sound_of (h2 i (mem i)), fun i k a b c => ?_, fun v => ⟨?_, fun i m => ?_⟩, n⟩
  · rcases h3 i (mem i) k (mem k) with e | e
    · rcases e with (e | e) | e
      · rw [a] at e; cases e
      · rw [b] at e; cases e
      · exact absurd c e
    · exact e
  · cases e : s.holds v with
    | nil => exact List.nodup_nil
    | cons i l =>
      obtain ⟨x, m⟩ := State.holds_mem (s := s) (v := v) (i := i) (by rw [e]; exact List.mem_cons_self)
      rw [← e]; exact (h4 _ m).1
  · obtain ⟨x, mx⟩ := State.holds_mem m
    have := (h4 _ mx).2 i m
    exact ⟨this.1, List.contains_iff_mem.1 this.2⟩

/-- The same of a state without a computation. -/
theorem State.incidentsSound_of {s : State}
    (h : (decide (s.tagCounter ≤ 65534) && allSixteen.all (fun i => (s.inc i).soundB) &&
      allSixteen.all (fun i => allSixteen.all fun k =>
        !((s.inc i).inUse && (s.inc k).inUse && decide ((s.inc i).burst = (s.inc k).burst)) || decide (i = k)) &&
      s.valves.all (fun (v, _) => decide (s.holds v).Nodup &&
        (s.holds v).all fun i => (s.inc i).inUse && (s.inc i).stepValves.contains v)) = true)
    (n : s.planner.comp = none) : s.incidentsSound :=
  State.incidentsSound_with h fun c e => by rw [n] at e; cases e

/-! ## The computation of a concrete state -/

/-- `State.searches`, checked over the lists. -/
def State.searchesB (s : State) (c : Comp) : Bool :=
  (match c.cur with
    | none => true
    | some (n, rest) => decide (c.stage ≠ .search) || (c.zone.contains n && rest.all (s.segOf n).valves.contains)) &&
  c.zone.all (fun n => (s.segOf n).valves.all fun v => c.examined.contains v || (decide (c.stage = .search) &&
    (c.stack.contains n || ((c.cur.map fun e => decide (e.1 = n) && e.2.contains v).getD false)))) &&
  c.examined.all (fun v => ((s.valve? v).map fun x => (c.boundary.map (·.valve)).contains v ||
    (c.zone.contains x.st.sideA && ((x.st.sideB.map c.zone.contains).getD true))).getD true) &&
  c.boundary.all (fun p => ((s.valve? p.valve).map fun x => c.zone.any x.st.hasSideB).getD false) &&
  (!c.stage.searched || c.boundary.all fun p => !s.inside c.zone p.valve) &&
  decide (c.edgeCount = (s.edgesOf c).length ∧ c.edgeValves = (s.edgesOf c).reverse.take Config.maxEdgeValves)

theorem State.searches_of {s : State} {c : Comp} (h : s.searchesB c = true) : s.searches c := by
  simp only [State.searchesB, Bool.and_eq_true, List.all_eq_true, decide_eq_true_eq] at h
  obtain ⟨⟨⟨⟨⟨h1, h2⟩, h3⟩, h4⟩, h5⟩, h6⟩ := h
  refine ⟨fun st n rest e => ?_, fun n m v w => ?_, fun v m x e => ?_, fun v f => ?_, fun st v f => ?_, h6⟩
  · simpa [e, st] using h1
  · have := h2 n m v w
    cases e : c.cur with
    | none => simpa [e] using this
    | some k =>
      have := by simpa [e] using this
      exact this.imp_right fun b => b.imp_right fun d => d.imp_right fun f => ⟨k.2, by rw [← f.1], f.2⟩
  · have := h3 v m
    cases b : x.st.sideB <;> simpa [e, b, Comp.finds, ValveStatic.within] using this
  · obtain ⟨p, m, rfl⟩ := List.mem_map.1 f
    have := h4 p m
    cases e : s.valve? p.valve with
    | none => simp [e] at this
    | some x => exact ⟨x, rfl, by simpa [e, ValveStatic.hasSideB_iff] using this⟩
  · obtain ⟨p, m, rfl⟩ := List.mem_map.1 f
    simp only [st, Bool.not_true, Bool.false_or, List.all_eq_true, Bool.not_eq_true'] at h5
    exact h5 p m

/-- `State.searchSound`, checked for the computation in progress. -/
def State.searchSoundB (s : State) (c : Comp) : Bool :=
  let analyses := decide ((∀ n ∈ c.visited, n ∉ c.zone) ∧ (∀ n ∈ s.feeds, n ∉ c.zone → n ∈ c.visited) ∧
    (c.spill.length ≤ Config.maxSpill ∧ ∀ n ∈ c.spill, n ∈ c.visited) ∧
    ∀ n ∈ c.visited, s.seg? n ≠ none → n ∈ c.explored ∨ n ∈ c.spill ∨ c.spillFlag = true)
  decide (c.zone ≠ [] ∧ c.zone.Nodup ∧ c.zone.length ≤ Config.maxZone ∧ (c.stack.Nodup ∧ ∀ n ∈ c.stack, n ∈ c.zone) ∧
    c.examined.Nodup) && (decide (c.stage = .search) || decide (c.stage = .stranded) || c.stage.searched) && s.searchesB c && (c.stage.analysed || !c.noFeeds) &&
  (decide (c.stage ≠ .stranded) || analyses) &&
  (!c.stage.analysed || ((s.feeds.isEmpty || analyses) && decide (c.noFeeds = s.feeds.isEmpty ∧
    (c.stranded = if s.feeds.isEmpty then [] else
      (s.segs.map (·.1)).filter fun n => !c.zone.contains n && !c.visited.contains n) ∧
    (s.feeds ≠ [] → ∀ n ∈ c.visited, s.seg? n ≠ none → n ∈ c.explored) ∧
    c.protection = s.protectionOver (c.zone ++ c.stranded))))

/-- A computation that checks, and has not failed, is sound. -/
theorem State.searchSound_of {s : State} {c : Comp} (h : s.planner.comp = some c) (b : s.searchSoundB c = true) :
    s.searchSound := by
  intro d e
  obtain rfl : c = d := Option.some.inj (h.symm.trans e)
  simp only [State.searchSoundB, Bool.and_eq_true, Bool.or_eq_true, decide_eq_true_eq, Bool.not_eq_true'] at b
  obtain ⟨⟨⟨⟨⟨⟨z1, z2, z3, z4, z5⟩, f'⟩, w⟩, n⟩, a⟩, r⟩ := b
  have f : ∀ r, c.stage ≠ .failed r := fun r e => by rw [e] at f'; revert f'; cases r <;> decide
  refine ⟨⟨z1, z2, z3, z4, z5, fun x => absurd x (f _), fun x => absurd x (f _)⟩, fun _ => State.searches_of w, fun x => ?_,
    fun x => ?_, fun x => ⟨fun y => ?_, ?_⟩⟩
  · exact n.resolve_left (by rw [x]; decide)
  · have := a.resolve_left fun k => k x
    exact ⟨this.1, this.2.1, this.2.2.1, this.2.2.2⟩
  · have := (r.resolve_left (by rw [x]; decide)).1.resolve_left fun k => y (List.isEmpty_iff.1 k)
    exact ⟨this.1, this.2.1, this.2.2.1, this.2.2.2⟩
  · have := (r.resolve_left (by rw [x]; decide)).2
    exact ⟨this.1, this.2.1, this.2.2.1, this.2.2.2⟩

/-- A state whose slow valves, requests and counts check has a sound allowance. -/
theorem State.allowanceSound_of {s : State}
    (h : (s.valves.all (fun (v, _) => !(decide (s.motion v = .closeSlow) || decide (s.motion v = .openSlow)) ||
        (s.hasMover v && (s.zone (s.zoneOf v)).holders.contains v)) &&
      allEight.all (fun z => (s.zone z).requests.all (fun v => decide (s.zoneOf v = z) && s.hasMover v) &&
        decide (s.slowCount z ≤ (s.zone z).record.allowance) &&
        (decide ((s.zone z).guard ≠ .guarded) || decide (s.slowCount z = 0)))) = true) : s.allowanceSound := by
  simp only [Bool.and_eq_true, List.all_eq_true, decide_eq_true_eq, Bool.or_eq_true, Bool.not_eq_true',
    Bool.or_eq_false_iff, decide_eq_false_iff_not] at h
  obtain ⟨h1, h2⟩ := h
  refine ⟨fun v e => ?_, fun z v m => ?_, fun z => ⟨(h2 z (mem_allEight z)).1.2, fun e => ?_⟩⟩
  · obtain ⟨x, m⟩ := State.motion_slow_mem e
    rcases h1 _ m with n | n
    · exact absurd e (not_or.2 n)
    · exact ⟨n.1, List.contains_iff_mem.1 n.2⟩
  · exact (h2 z (mem_allEight z)).1.1 v m
  · exact (h2 z (mem_allEight z)).2.resolve_left fun n => n e

end Sys2Proof.Machine
end

