-- ==== Sys2Proof/Tests/Slice0.lean ====
section
/-! SUPPORT. Tests: one step each on a small model, with expected values worked by hand from the rules (section numbers in the
comments), and for every statement with hypotheses a witness: a concrete state and operands that meet them all. -/

namespace Sys2Proof.Tests

open Sys2Proof Machine

-- One theorem after another: each kernel evaluation waits for the one before, and a thread for each would fill the memory.
set_option Elab.async false

/-! ## The small model: three segments of zone 3, three valves, one point, as in the corner of chapter 11 -/

def seg (vs : List Nat) : Seg where
  use := .inService
  zone := 3
  length := 500
  celerity := 1000
  rating := 1600
  diameter := 300
  protection := .none
  valves := vs

/-- V300 between S200 and S210, V301 between S200 and S201, V302 from S201 to EXTERNAL. -/
def vst (a : Nat) (b : Option Nat) (l : Fin 4) (addr turns : Nat) : ValveStatic where
  sideA := a
  sideB := b
  line := l
  addr := addr
  size := 300
  turns := turns
  maxSpeed := 20
  minSpeed := 2
  velocity := 1000
  normal := .opened
  mark := .inService

/-- A valve that two agreeing reports have found open. -/
def opened (turns : Nat) : ValveVol :=
  { ValveVol.fresh with
    reported := some turns
    accepted := some turns
    agreement := 2
    status := .fresh
    lastReport := some { position := turns, status := 0x02 }
    openRun := 2 }

def zoneRec : ZoneRec := { nominal := 450, drained := 50, window := 900, allowance := 2 }

def fresh0 : Node := { misses := 0, lastValid := none }

def point20 : PointAssign := { seg := 200, line := 3, addr := 200 }

def idlePort : Port := { Port.reset with rx := .idle }

/-- RUNNING, every link IDLE with nothing queued, every valve open. -/
def demo : State :=
  let s : State := { State.reset with
    segs := [(200, seg [300, 301]), (201, seg [301, 302]), (210, seg [300])]
    valves := [(300, ⟨vst 200 (some 210) 0 10 40, opened 40⟩), (301, ⟨vst 200 (some 201) 0 11 32, opened 32⟩),
      (302, ⟨vst 201 none 1 5 24, opened 24⟩)]
    points := [(20, Point.start point20)]
    feeds := [210]
    tagCounter := 5
    portA := idlePort
    portB := idlePort
    portS := idlePort }
  (((s.modZone 3 fun z => { z with record := zoneRec }).modLine 0 fun x =>
    { x with nodes := [(10, fresh0), (11, fresh0)], cursor := some 10, round := 1 }).modLine 1 fun x =>
    { x with nodes := [(5, fresh0)], cursor := some 5, round := 1 }).modLine 3 fun x =>
    { x with nodes := [(200, fresh0)], cursor := some 200, round := 1 }

/-- A transaction in flight to a node of a line. -/
def inFlight (l : Fin 4) (a : Nat) (k : TxnKind) (visit : Bool) (s : State) : State :=
  s.modLine l fun x => { x with txn := some { addr := a, kind := k, visit := visit, gone := false } }

/-- A request header on a link: tag 7 and a length byte. -/
def hd (l : Link) (n : Nat) : Hdr := { link := l, tag := 7, len := n }

/-! ## Reading a step's outcome -/

/-- Whether a command gives a next state with a property. -/
def ran (i : Instr) (s : State) (p : State → Bool) : Bool :=
  match exec i s with
  | .next t => p t
  | _ => false

/-- The outcome and the items' values of the reply that a request is sent at once. -/
def answer (i : Instr) (s : State) : Option (Out × List Nat) :=
  match i.hdr?, exec i s with
  | some h, .next t => match (t.port h.link).sending with
    | some (.reply r) => some (r.outcome, r.items.map (·.value))
    | _ => none
  | _, _ => none

/-! ## Readiness, checked -/

def readyB (s : State) (i : Instr) (h : Hdr) : Bool :=
  decide ((s.port h.link).rx = .idle) && decide ((s.port h.link).replies.length < 4) && decide ((s.port h.link).slot = none) &&
    decide (h.len = i.bodyLen) && decide (i.bodyLen ≤ 240)

theorem ready_of {s : State} {i : Instr} {h : Hdr} (e : readyB s i h = true) : s.ready i h := by
  simp only [readyB, Bool.and_eq_true, decide_eq_true_eq] at e
  obtain ⟨⟨⟨⟨h1, h2⟩, h3⟩, h4⟩, h5⟩ := e
  exact ⟨⟨h1, h2, h3⟩, h4, h5⟩

theorem running_of {s : State} {i : Instr} {h : Hdr} (e : (readyB s i h && decide (s.device = .running)) = true) :
    s.readyRunning i h := by
  simp only [Bool.and_eq_true, decide_eq_true_eq] at e
  exact ⟨ready_of e.1, e.2⟩

theorem policy_of {s : State} {i : Instr} {h : Hdr}
    (e : (readyB s i h && decide (s.device = .running) && isControl h.link && !s.imageWriting && !s.plannerBusy) = true) :
    s.readyForPolicy i h := by
  simp only [Bool.and_eq_true, decide_eq_true_eq, Bool.not_eq_true'] at e
  obtain ⟨⟨⟨⟨h1, h2⟩, h3⟩, h4⟩, h5⟩ := e
  exact ⟨⟨ready_of h1, h2⟩, h3, h4, h5⟩

theorem edit_of {s : State} {i : Instr} {h : Hdr}
    (e : (readyB s i h && decide (s.device = .running) && isControl h.link && !s.imageWriting && !s.plannerBusy &&
      !s.anyInUse) = true) : s.readyToEdit i h := by
  simp only [Bool.and_eq_true, decide_eq_true_eq, Bool.not_eq_true'] at e
  obtain ⟨⟨⟨⟨⟨h1, h2⟩, h3⟩, h4⟩, h5⟩, h6⟩ := e
  exact ⟨⟨ready_of h1, h2⟩, h3, h4, h5, h6⟩

theorem named_of {s : State} {i : Instr} {h : Hdr} {k : Fin 16} {tag : Nat}
    (e : (readyB s i h && decide (s.device = .running) && s.tenancy k tag) = true) : s.readyToName i h k tag := by
  rw [Bool.and_eq_true] at e
  exact ⟨running_of e.1, e.2⟩

/-- A state whose store holds and writes no image is sound where its model is. -/
theorem sound_of {s : State} (e : (s.image.shapedB && s.image.agreesB && s.image.distinctB && s.image.unmixedB) = true)
    (h : s.store = State.reset.store) : s.modelSound := by
  refine ⟨Image.sound_of e, ?_⟩
  rw [h]
  exact ⟨(by rintro c (h | h) <;> cases h), (by rintro l c h; cases h), (by rintro l c h; cases h)⟩

theorem demo_sound : demo.modelSound := sound_of (by decide +kernel) (by decide +kernel)

/-! ## Well-formedness: each check refuses a command that cannot reach the part -/

theorem test_wf_tag : (Instr.readDevice { link := .A, tag := 256, len := 0 }).wellFormed = false := by decide
theorem test_wf_len : (Instr.readDevice { link := .A, tag := 0, len := 256 }).wellFormed = false := by decide
theorem test_wf_item : (Instr.readSeg (hd .A 2) 65536).wellFormed = false := by decide
theorem test_wf_count : (Instr.feedSet (hd .A 0) (List.replicate 256 0)).wellFormed = false := by decide +kernel
theorem test_wf_grantMode : (Instr.grantMode (hd .A 1) 0 1 0).wellFormed = false := by decide
theorem test_wf_unknown : (Instr.unknownRequest (hd .A 0) 40).wellFormed = false ∧
    (Instr.unknownRequest (hd .A 0) 41).wellFormed = true := by decide
theorem test_wf_discarded : (Instr.discardedFrame .A [0xA5, 0x00, 0x01, 0x02, 0xC1, 0x80]).wellFormed = false ∧
    (Instr.discardedFrame .A [0xA5, 0x00, 0x01, 0x02, 0xC1, 0x81]).wellFormed = true ∧
    (Instr.discardedFrame .A [0x5A]).wellFormed = true ∧ (Instr.discardedFrame .A [0xA5, 0xF1]).wellFormed = true := by
  decide +kernel
theorem test_wf_gap : (Instr.idleGap .A [0xA5, 0xF1]).wellFormed = false ∧ (Instr.idleGap .A [0xA5, 0xF0]).wellFormed = true :=
  by decide +kernel
theorem test_wf_addr : (Instr.report 0 193 0 0).wellFormed = false ∧ (Instr.report 0 192 1500 0).wellFormed = true := by decide
theorem test_wf_position : (Instr.report 0 1 1501 0).wellFormed = false := by decide
theorem test_wf_result : (Instr.moveReply 0 1 3).wellFormed = false ∧ (Instr.stopReply 0 1 1).wellFormed = false := by decide
theorem test_wf_sensor : (Instr.sampleReply 0 199 0 0).wellFormed = false ∧ (Instr.sampleReply 0 231 2500 1).wellFormed = true :=
  by decide
theorem test_wf_sample : (Instr.sampleReply 0 200 2501 0).wellFormed = false ∧
    (Instr.sampleReply 0 200 0 2).wellFormed = false := by decide

/-! ## Frames: the published check values of the three CRCs over "123456789" and frames written out by hand -/

def digits : List Byte := [0x31, 0x32, 0x33, 0x34, 0x35, 0x36, 0x37, 0x38, 0x39]

theorem test_crc8 : crc8 digits = 0xF4 := by decide +kernel
theorem test_crc16 : crc16 digits = 0x29B1 := by decide +kernel
theorem test_crc32 : crc32 digits = 0xCBF43926 := by decide +kernel

theorem test_frame_readDevice : decodeRequest .A [0xA5, 0x00, 0x01, 0x02, 0xC1, 0x80] =
    some (.readDevice { link := .A, tag := 2, len := 0 }) := by decide +kernel
theorem test_frame_segPut : decodeRequest .B [0xA5, 0x0D, 0x0D, 0x07, 0x00, 0x03, 0x00, 0x01, 0x03, 0x84, 0x03, 0xE8, 0x02,
    0x58, 0x01, 0x2C, 0x01, 0x38, 0x99] = some (.segPut (hd .B 13) 3 0 1 900 1000 600 300 1) := by decide +kernel
theorem test_frame_open : decodeRequest .S [0xA5, 0x03, 0x1E, 0x07, 0x00, 0xC8, 0x01, 0x96, 0x85] =
    some (.openInc (hd .S 3) 200 1) := by decide +kernel
theorem test_frame_grantMode : decodeRequest .A [0xA5, 0x04, 0x17, 0x09, 0x02, 0x05, 0x01, 0x02, 0x51, 0xFD] =
    some (.grantMode { link := .A, tag := 9, len := 4 } 2 5 258) := by decide +kernel
theorem test_frame_groupPut : decodeRequest .A [0xA5, 0x06, 0x15, 0x01, 0x04, 0x01, 0x02, 0x03, 0x08, 0x03, 0xC8, 0x91] =
    some (.groupPut { link := .A, tag := 1, len := 6 } 4 1 [3, 8] 3) := by decide +kernel
theorem test_frame_mark : decodeRequest .A [0xA5, 0x06, 0x1A, 0x01, 0x02, 0x00, 0x05, 0x01, 0x2C, 0x01, 0xE3, 0xCE] =
    some (.mark { link := .A, tag := 1, len := 6 } [5, 300] 1) := by decide +kernel
theorem test_frame_ack : decodeRequest .A [0xA5, 0x05, 0x28, 0x01, 0x03, 0x00, 0x09, 0x10, 0x00, 0xF4, 0x85] =
    some (.ack { link := .A, tag := 1, len := 5 } 3 9 0x1000) := by decide +kernel
theorem test_frame_readLine : decodeRequest .A [0xA5, 0x02, 0x06, 0x01, 0x02, 0xC8, 0xC6, 0x35] =
    some (.readLine { link := .A, tag := 1, len := 2 } 2 200) := by decide +kernel
theorem test_frame_unknown : decodeRequest .A [0xA5, 0x00, 0x29, 0x02, 0x4E, 0xCF] =
    some (.unknownRequest { link := .A, tag := 2, len := 0 } 41) := by decide +kernel
theorem test_frame_bad_crc : decodeRequest .A [0xA5, 0x00, 0x29, 0x02, 0x4E, 0xCE] = none := by decide +kernel

/-- The reply of a refusal is one body byte, the outcome (R189): marker, length 1, kind 1, tag 2, DONE. -/
theorem test_frame_reply : (OutFrame.reply { kind := 1, tag := 2, outcome := .done, items := [] }).bytes =
    [0x5A, 0x01, 0x01, 0x02, 0x00, 0x65, 0x76] := by decide +kernel

theorem test_line_commands : bareFrame 10 .query = [0x0A, 0x01, 0x85] ∧ moveFrame 12 10 20 = [0x0C, 0x02, 0x00, 0x0A, 0x14, 0x54] ∧
    bareFrame 12 .stop = [0x0C, 0x03, 0xF5] ∧ bareFrame 200 .sample = [0xC8, 0x04, 0x59] := by decide +kernel
theorem test_line_report : decodeReply 2 [0x0C, 0x81, 0x00, 0x07, 0x08, 0xE2] = some (.report 2 12 7 0x08) := by decide +kernel
theorem test_line_replies : decodeReply 0 [0x0C, 0x82, 0x01, 0x61] = some (.moveReply 0 12 1) ∧
    decodeReply 0 [0x0C, 0x83, 0x00, 0x73] = some (.stopReply 0 12 0) ∧
    decodeReply 0 [0xC8, 0x84, 0x01, 0x7C, 0x00, 0x1A] = some (.sampleReply 0 200 380 0) := by decide +kernel
theorem test_table_has_no_words : decodeTableWord 8 0 = none := by decide

/-! ## The worked cases of section 6.7 -/

def side (length celerity rating : Nat) : Seg := { seg [] with length := length, celerity := celerity, rating := rating }

def stroke (turns mx mn vel : Nat) : ValveStatic :=
  { vst 0 none 0 1 turns with maxSpeed := mx, minSpeed := mn, velocity := vel }

def case1 (c : Machine.Class) : Figures := fullTiming (stroke 48 30 2 1200) (side 3200 1000 600) (some (side 900 1100 800)) 420 true c

theorem test_case1 : case1 .normal = ⟨8, 72000, 90000, false⟩ ∧ case1 .slow = ⟨4, 72000, 180000, false⟩ ∧
    case1 .gentle = ⟨2, 72000, 360000, false⟩ ∧ motionTimeout 36 30 = 118000 ∧ motionTimeout 12 8 = 145000 := by decide +kernel
theorem test_case2 : fullTiming (stroke 24 30 3 900) (side 120 1200 1000) none 380 false .normal = ⟨30, 36000, 12000, false⟩ ∧
    motionTimeout 18 30 = 64000 ∧ motionTimeout 6 30 = 28000 := by decide +kernel
theorem test_case3 : fullTiming (stroke 20 12 1 3000) (side 4000 300 500) (some (side 2000 400 900)) 490 true .normal =
    ⟨1, 75000, 300000, true⟩ ∧ motionTimeout 15 12 = 122500 ∧ motionTimeout 5 1 = 460000 := by decide +kernel
theorem test_case4 : fullTiming (stroke 40 20 2 800) (side 1500 1100 700) (some (side 600 1250 550)) 480 false .normal =
    ⟨17, 90000, 35295, false⟩ ∧ motionTimeout 10 17 = 62943 ∧ motionTimeout 30 20 = 145000 := by decide +kernel
theorem test_case5 : let st := stroke 48 30 2 1200
    halve st (case1 .normal) = ⟨4, 72000, 180000, false⟩ ∧ halve st (case1 .slow) = ⟨2, 72000, 360000, false⟩ ∧
      halve st (case1 .gentle) = ⟨2, 72000, 360000, true⟩ ∧ motionTimeout 7 4 = 167500 ∧ motionTimeout 5 2 = 235000 ∧
      motionTimeout 3 2 = 145000 := by decide +kernel

/-- The reversal of chapter 11: 13 turns at 20 tpm are timed 68,500 ms (section "Restoration of shared closures"). -/
theorem test_reversal_timeout : phaseTime 13 20 = 39000 ∧ motionTimeout 13 20 = 68500 := by decide +kernel

/-! ## The block as a whole -/

theorem test_witness_StepRunsTheFrontCommand :
    ({ demo with pending := [.miss 2, .reset] } : State).pending = .miss 2 :: [.reset] := rfl

/-- A computation in progress, and none. -/
theorem test_witness_IdleStepPassesOneMillisecond : State.reset.pending = [] ∧ State.reset.planner.comp = none ∧
    ({ demo with planner := { queue := [], comp := some (Comp.begin (demo.inc 0) 0) } } : State).pending = [] := by
  decide +kernel

/-- RESET with a stored image: the model is loaded, MODEL_LOST stays clear, the lines have nodes and so the device starts. -/
theorem test_reset_loads : ran .reset { demo with store := { demo.store with image := .good demo.image } } (fun t =>
    decide (t.device = .starting) && decide (t.image = demo.image) && decide (t.portA.device = 0x10) &&
      decide ((t.line 0).round = 1) && decide ((t.valve? 300).map (·.vol) = some ValveVol.fresh)) = true := by decide +kernel

/-- RESET with a write of the image in progress: its area then checks bad (log 11), so the model is lost. -/
theorem test_reset_cut : ran .reset { demo with store := { demo.store with
      image := .good demo.image
      active := some (.image .A demo.image) } } (fun t =>
    decide (t.device = .running) && decide (t.image = Image.empty) && decide (t.portA.device = 0x18)) = true := by
  decide +kernel

/-- RESET with a stored lock list: it is loaded and LOCKS_LOST stays clear, while the bad image loses the model (R19, R57). -/
theorem test_reset_locks : ran .reset { demo with store := { demo.store with locks := .good [⟨300, .B, 40⟩] } } (fun t =>
    decide (t.locks = [⟨300, .B, 40⟩]) && decide (t.portA.device = 0x08)) = true := by decide +kernel

/-! ## Admission -/

def oneReply : Reply := { kind := 1, tag := 1, outcome := .done, items := [] }
def full : State := demo.modPort .A fun p => { p with replies := List.replicate 4 oneReply }
def occupied : State := demo.modPort .A fun p => { p with slot := some { code := 27, tag := 1 } }
def starting : State := { demo with device := .starting }

/-- Each test of R185 at its boundary: four replies queued and the slot occupied, the slot occupied, kind 0, kind 41, a length one
short with an unpermitted request, SEG_DROP from link S, and UNLOCK with FORCE from link S. -/
theorem test_witness_AdmissionTestsAreMadeInOrder :
    (∀ i ∈ [Instr.readDevice (hd .A 0), .readDevice (hd .A 240), .unknownRequest (hd .A 240) 0, .unknownRequest (hd .A 0) 41],
        i.hdr? = some (hd .A 0) ∨ i.hdr? = some (hd .A 240)) ∧
      4 ≤ (full.port .A).replies.length ∧ (full.port .A).rx = .idle ∧
      (occupied.port .A).replies.length < 4 ∧ (occupied.port .A).slot.isSome ∧
      (Instr.unknownRequest (hd .A 0) 41).code?.getD 0 = 41 ∧ (Instr.unknownRequest (hd .A 0) 0).code?.getD 0 = 0 ∧
      (hd .S 1).len ≠ (Instr.segDrop (hd .S 1) 200).bodyLen ∧
      permitted (.segDrop (hd .S 2) 200) .S = false ∧ permitted (.unlock (hd .S 3) 300 1) .S = false ∧
      permitted (.unlock (hd .S 3) 300 0) .S = true ∧ (demo.port .S).rx = .idle := by
  decide +kernel

theorem test_admission :
    ran (.readDevice (hd .A 0)) full (fun t => decide (t.portA = { full.portA with errors := 1 })) = true ∧
      answer (.readDevice (hd .A 0)) occupied = some (.busy, []) ∧
      answer (.unknownRequest (hd .A 0) 41) demo = some (.unknownRequest, []) ∧
      answer (.segDrop (hd .S 1) 200) demo = some (.badLength, []) ∧
      answer (.segDrop (hd .S 2) 200) demo = some (.notPermitted, []) ∧
      answer (.unlock (hd .S 3) 300 1) demo = some (.notPermitted, []) := by decide +kernel

theorem test_witness_OnlyReadsAreTakenDuringStartUp :
    ∀ i ∈ [Instr.readLink (hd .A 1) 0, .ack (hd .A 4) 255 0 0], i.hdr? = some (hd .A i.bodyLen) ∧
      (∀ n, i.code? = some n → 12 ≤ n ∧ n ≤ 40) ∧ starting.ready i (hd .A i.bodyLen) ∧
      (∀ k, i ≠ .unknownRequest (hd .A i.bodyLen) k) ∧ permitted i Link.A = true ∧ starting.device = .starting := by
  intro i m
  simp only [List.mem_cons, List.not_mem_nil, or_false] at m
  rcases m with rfl | rfl
  · refine ⟨rfl, fun n h => ?_, ready_of (by decide +kernel), by simp, rfl, rfl⟩
    cases h; decide
  · refine ⟨rfl, fun n h => ?_, ready_of (by decide +kernel), by simp, rfl, rfl⟩
    cases h; decide

theorem test_starting : answer (.readLink (hd .A 1) 0) starting = some (.starting, []) ∧
    (answer (.readAttention (hd .A 0)) starting).map (·.1) = some .done := by decide +kernel

/-- STARTING, with the visit to an address of line 0 in flight: line 0 has had `n` start-up rounds, line 1 has had `k`, the others two. -/
def startsUp (n k a : Nat) : State :=
  ((inFlight 0 a .query true starting).modLine 0 fun x => { x with startRounds := n }).modLine 1 fun x => { x with startRounds := k }

/-- The highest address and one below it, in the first and the second round, with another line done or not; every kind of reply. -/
theorem test_witness_StartUpRounds :
    (∀ n ∈ [0, 1], ∀ k ∈ [1, 2], (startsUp n k 11).device = .starting ∧
      ((startsUp n k 11).line 0).txn = some { addr := 11, kind := .query, visit := true, gone := false } ∧
      (∀ e ∈ ((startsUp n k 11).line 0).nodes, e.1 ≤ 11) ∧ ((startsUp n k 11).line 0).startRounds = n ∧
      ((startsUp n k 11).line 1).startRounds = k ∧ ((startsUp n k 11).line 2).startRounds = 2 ∧
      ((startsUp n k 11).valveAt 0 11).map (·.2.st.turns) = some 32) ∧
    (∃ e ∈ ((startsUp 0 2 10).line 0).nodes, 10 < e.1) ∧
    ((inFlight 3 200 .sample true starting).line 3).txn = some { addr := 200, kind := .sample, visit := true, gone := false } ∧
    (∀ e ∈ ((inFlight 3 200 .sample true starting).line 3).nodes, e.1 ≤ 200) := by decide +kernel

/-- The second round of the last line ends start-up (R20); the first does not, and neither does the second while another line has had one. -/
theorem test_startUp_ends : ran (.miss 0) (startsUp 1 2 11) (fun t => decide (t.device = .running) && decide ((t.line 0).round = 2)) = true ∧
    ran (.report 0 11 32 0x02) (startsUp 0 2 11) (fun t => decide (t.device = .starting) && decide ((t.line 0).startRounds = 1)) = true ∧
    ran (.miss 0) (startsUp 1 1 11) (fun t => decide (t.device = .starting) && decide ((t.line 0).startRounds = 2)) = true ∧
    ran (.miss 0) (startsUp 1 2 10) (fun t => decide (t.device = .starting) && decide ((t.line 0).cursor = some 11)) = true := by
  decide +kernel

/-- Slot 16, and slot 15 FREE. -/
theorem test_witness_NamedIncidentIsTestedFirst :
    (namesIncident (.confirm (hd .A 3) 16 5) = some (16, 5) ∧ demo.readyRunning (.confirm (hd .A 3) 16 5) (hd .A 3) ∧
      15 < 16) ∧
    (namesIncident (.confirm (hd .A 3) 15 5) = some (15, 5) ∧ demo.readyRunning (.confirm (hd .A 3) 15 5) (hd .A 3) ∧
      (15 : Fin 16).val = 15 ∧ demo.tenancy 15 5 = false) :=
  ⟨⟨rfl, running_of (by decide +kernel), by decide⟩, rfl, running_of (by decide +kernel), rfl, by decide +kernel⟩

theorem test_named : answer (.confirm (hd .A 3) 16 5) demo = some (.badIndex, []) ∧
    answer (.confirm (hd .A 3) 15 5) demo = some (.staleTag, []) := by decide +kernel

def tenancy5 (st : IncState) : State :=
  { demo.modInc 0 (fun x => { x with state := st, tag := some 5, link := some .A, burst := some 200 }) with tagCounter := 6 }

/-! ## A plan over the small model: V300 and V301 close for the burst on S200 -/

def stepOf (v : Nat) (x : StepState) (w : Nat) : Step where
  valve := v
  role := .boundary
  state := x
  wave := w
  cls := .normal
  figures := { slow := 20, runEst := 90000, slowEst := 30000, surgeRisk := false }
  takenUp := false
  cause := none

def planOf (steps : List Step) : Plan where
  zone := [200]
  steps := steps
  stranded := []
  strandedCount := 0
  more := false
  protection := .none
  openEdge := false
  strandsProtected := false
  noFeeds := false
  edgeValves := []
  edgeCount := 0
  rescans := 0
  group := none
  concurrence := false
  cls := .normal
  prio := 0
  kind := .first

/-- The incident in slot 0 (tag 5, link A) in a state, with both steps in a step state. -/
def incIn (x : IncState) (st : StepState) : State :=
  ((tenancy5 x).modInc 0 fun y => { y with plan := some (planOf [stepOf 300 st 1, stepOf 301 st 1]), lastWave := 1 })

/-- The same with the steps' valves held by it. -/
def heldIn (x : IncState) (st : StepState) : State :=
  ((incIn x st).modVol 300 fun y => { y with holds := [0] }).modVol 301 fun y => { y with holds := [0] }

/-- V300 runs closed for the incident in slot 0, holding slot 0 of its line; so does V301 in slot 1. -/
def closingMotion (v : Nat) : Motion where
  owner := .step 0 5
  valve := v
  dir := .closing
  figures := none
  motionTimer := some 118000
  stopTimer := none
  stop := none
  reversal := none
  stepNo := none

def closing : State :=
  ((((heldIn .closing .moving).modInc 0 fun x => { x with current := some 1 }).modVol 300 fun x =>
    { x with motion := .closeRun }).modVol 301 fun x => { x with motion := .closeRun }).modLine 0 fun x =>
    { x with slots := #v[some (closingMotion 300), some (closingMotion 301), none, none] }

/-! ## Reads -/

/-- Defined and undefined records at the ends of the tables. -/
theorem test_witness_ModelReadsAnswerTheRecords :
    demo.ready (.readDevice (hd .A 0)) (hd .A 0) ∧
    (demo.ready (.readSeg (hd .A 2) 200) (hd .A 2) ∧ (demo.seg? 200).isSome) ∧
    (demo.ready (.readSeg (hd .A 2) 1023) (hd .A 2) ∧ 1023 < 1024 ∧ demo.seg? 1023 = none) ∧
    (demo.ready (.readValve (hd .A 2) 300) (hd .A 2) ∧ (demo.valve? 300).isSome) ∧
    (demo.ready (.readValve (hd .A 2) 767) (hd .A 2) ∧ 767 < 768 ∧ demo.valve? 767 = none) ∧
    demo.ready (.readZone (hd .A 1) 7) (hd .A 1) ∧
    (demo.ready (.readPoint (hd .A 1) 20) (hd .A 1) ∧ (demo.point? 20).isSome) ∧
    (demo.ready (.readPoint (hd .A 1) 127) (hd .A 1) ∧ 127 < 128 ∧ demo.point? 127 = none) :=
  ⟨ready_of (by decide +kernel), ⟨ready_of (by decide +kernel), by decide +kernel⟩,
    ⟨ready_of (by decide +kernel), by decide, by decide +kernel⟩, ⟨ready_of (by decide +kernel), by decide +kernel⟩,
    ⟨ready_of (by decide +kernel), by decide, by decide +kernel⟩, ready_of (by decide +kernel),
    ⟨ready_of (by decide +kernel), by decide +kernel⟩, ready_of (by decide +kernel), by decide, by decide +kernel⟩

/-- The items of R191: RUNNING, revision 0, no flag, no orphan, no slot in use, not busy, FIXED, one feed. -/
theorem test_readDevice : answer (.readDevice (hd .A 0)) demo =
    some (.done, [1, 0, 0, 0, 0, 0, 0, 0, 255, 65535, 1, 210]) := by decide +kernel
theorem test_readSeg : answer (.readSeg (hd .A 2) 200) demo =
    some (.done, [1, 0, 3, 500, 1000, 1600, 300, 0, 2, 300, 301, 0]) := by decide +kernel
/-- The items of R62 of an open valve without a motion, a hold or a lock: AT_NORMAL. -/
theorem test_readValve : answer (.readValve (hd .A 2) 302) demo = some (.done, [1, 201, 65535, 1, 5, 300, 24, 20, 2, 1000, 0, 0, 3,
    0, 24, 24, 2, 1, 0, 255, 65535, 255, 255, 4294967295, 4294967295, 255, 0, 0, 0, 3, 65535, 255, 65535]) := by
  decide +kernel
theorem test_readZone : answer (.readZone (hd .A 1) 3) demo = some (.done, [450, 50, 900, 2, 0, 255, 0, 0, 0]) := by
  decide +kernel
/-- An empty ring, not fresh, round 1 of a RUNNING line, the zone's nominal pressure (R72). -/
theorem test_readPoint : answer (.readPoint (hd .A 1) 20) demo = some (.done, [1, 200, 3, 200, 3, 0, 0, 0, 1, 0, 450, 1]) := by
  decide +kernel

theorem test_witness_ActivityReadsAnswerTheirItems :
    demo.ready (.readLine (hd .A 2) 3 0) (hd .A 2) ∧
    (demo.ready (.readPolicy (hd .A 2) 0 31) (hd .A 2) ∧ 31 < 32) ∧
    (demo.ready (.readPolicy (hd .A 2) 1 15) (hd .A 2) ∧ 15 < 16) ∧
    demo.ready (.readIncident (hd .A 1) 15) (hd .A 1) ∧
    ((tenancy5 .planning).ready (.readPlan (hd .A 5) (0 : Fin 16).val 5 0 0) (hd .A 5) ∧
      (tenancy5 .planning).tenancy 0 5 = true ∧ ((tenancy5 .planning).inc 0).plan = none) ∧
    (demo.ready (.readLocks (hd .A 1) 63) (hd .A 1) ∧ 63 ≤ 63) ∧
    demo.ready (.readAttention (hd .S 0)) (hd .S 0) ∧
    demo.readyRunning (.readLink (hd .S 1) 0) (hd .S 1) ∧
    (2 < 3 ∧ demo.readyRunning (.readLink (hd .S 1) 3) (hd .S 1)) :=
  ⟨ready_of (by decide +kernel), ⟨ready_of (by decide +kernel), by decide⟩, ⟨ready_of (by decide +kernel), by decide⟩,
    ready_of (by decide +kernel), ⟨ready_of (by decide +kernel), by decide +kernel, by decide +kernel⟩,
    ⟨ready_of (by decide +kernel), by decide⟩, ready_of (by decide +kernel), running_of (by decide +kernel), by decide,
    running_of (by decide +kernel)⟩

/-- The empty rule 31 (R110, R125), and the empty group 15, whose one member is rule 15 and whose stage is OFF (R114). -/
theorem test_readPolicy : answer (.readPolicy (hd .A 2) 0 31) demo = some (.done, [1, 31, 0, 0, 0, 0, 0, 0, 0, 0, 0, 0]) ∧
    answer (.readPolicy (hd .A 2) 1 15) demo = some (.done, [1, 15, 0, 1, 15, 15, 0]) := by decide +kernel
theorem test_readLocks : answer (.readLocks (hd .A 1) 0) { demo with locks := [⟨300, .B, 40⟩, ⟨5, .S, 0⟩] } =
    some (.done, [2, 300, 1, 40, 1, 5, 2, 0, 0, 2]) := by decide +kernel
theorem test_readAttention : answer (.readAttention (hd .A 0)) demo = some (.done, [0, 0, 0x1FFF, 0x3F, 0, 0]) := by
  decide +kernel
/-- The link that asks shows its own slot as held by READ_LINK, and the count returned is cleared (R192). -/
theorem test_readLink : answer (.readLink (hd .A 1) 0) (demo.modPort .A fun p => { p with errors := 3 }) =
      some (.done, [3, 1, 12, 0, 0, 0x1FFF, 0x3F, 0]) ∧
    ran (.readLink (hd .A 1) 0) (demo.modPort .A fun p => { p with errors := 3 }) (fun t => decide (t.portA.errors = 0)) =
      true := by decide +kernel
theorem test_readIncident_free : (answer (.readIncident (hd .A 1) 15) demo).map (·.2.head?) = some (some 0) := by
  decide +kernel
theorem test_readLine : (answer (.readLine (hd .A 2) 3 0) demo).map (·.1) = some .done ∧
    answer (.readLine (hd .A 2) 4 0) demo = some (.badIndex, []) := by decide +kernel
theorem test_readPlan : (answer (.readPlan (hd .A 5) 0 5 0 0) (tenancy5 .planning)).map (·.1) = some .done ∧
    answer (.readPlan (hd .A 5) 0 4 0 0) (tenancy5 .planning) = some (.staleTag, []) := by decide +kernel

theorem test_witness_ReadsOutsideTheirTablesAreRefused :
    demo.ready (.readSeg (hd .A 2) 1024) (hd .A 2) ∧ demo.ready (.readValve (hd .A 2) 768) (hd .A 2) ∧
    demo.ready (.readZone (hd .A 1) 8) (hd .A 1) ∧ demo.ready (.readPoint (hd .A 1) 128) (hd .A 1) ∧
    demo.ready (.readLine (hd .A 2) 4 0) (hd .A 2) ∧ demo.ready (.readPolicy (hd .A 2) 0 32) (hd .A 2) ∧
    demo.ready (.readPolicy (hd .A 2) 1 16) (hd .A 2) ∧ demo.ready (.readPolicy (hd .A 2) 2 0) (hd .A 2) ∧
    demo.ready (.readIncident (hd .A 1) 16) (hd .A 1) ∧ demo.ready (.readPlan (hd .A 5) 16 5 0 0) (hd .A 5) ∧
    (demo.tenancy 15 5 = false ∧ demo.ready (.readPlan (hd .A 5) (15 : Fin 16).val 5 0 0) (hd .A 5)) ∧
    ((tenancy5 .planning).tenancy 0 5 = true ∧ (tenancy5 .planning).ready (.readPlan (hd .A 5) (0 : Fin 16).val 5 4 0) (hd .A 5)) ∧
    demo.ready (.readLocks (hd .A 1) 64) (hd .A 1) :=
  ⟨ready_of (by decide +kernel), ready_of (by decide +kernel), ready_of (by decide +kernel), ready_of (by decide +kernel),
    ready_of (by decide +kernel), ready_of (by decide +kernel), ready_of (by decide +kernel), ready_of (by decide +kernel),
    ready_of (by decide +kernel), ready_of (by decide +kernel), ⟨by decide +kernel, ready_of (by decide +kernel)⟩,
    ⟨by decide +kernel, ready_of (by decide +kernel)⟩, ready_of (by decide +kernel)⟩

/-- A plan has one segment, two steps and no stranded segment: position 1 of the ZONE, 0 and 3 of the STEPS and 1 of the STRANDED
are beyond their lists; the last of each that is not is answered. -/
theorem test_witness_PlanPositions :
    (∀ e ∈ [(1, 0), (1, 1), (2, 0), (2, 1), (2, 2), (2, 3), (3, 0), (3, 1)],
      readyB (incIn .isolated .closed) (.readPlan (hd .A 5) (0 : Fin 16).val 5 e.1 e.2) (hd .A 5) = true) ∧
    (incIn .isolated .closed).tenancy 0 5 = true ∧ ((incIn .isolated .closed).inc 0).zoneList.length = 1 ∧
    ((incIn .isolated .closed).inc 0).steps.length = 2 ∧
    (((incIn .isolated .closed).inc 0).plan.map (·.stranded)) = some [] ∧ ((tenancy5 .planning).inc 0).plan = none := by
  decide +kernel

/-- The last step is answered, one beyond it and step 0 are not (R193, log 12); the first position of any list is. -/
theorem test_readPlan_positions :
    (answer (.readPlan (hd .A 5) 0 5 2 2) (incIn .isolated .closed)).map (fun e => (e.1, e.2.take 3)) =
      some (.done, [1, 301, 2]) ∧
    answer (.readPlan (hd .A 5) 0 5 2 3) (incIn .isolated .closed) = some (.outOfRange, []) ∧
    answer (.readPlan (hd .A 5) 0 5 2 0) (incIn .isolated .closed) = some (.outOfRange, []) ∧
    answer (.readPlan (hd .A 5) 0 5 3 0) (incIn .isolated .closed) = some (.done, [0]) ∧
    answer (.readPlan (hd .A 5) 0 5 3 1) (incIn .isolated .closed) = some (.outOfRange, []) ∧
    answer (.readPlan (hd .A 5) 0 5 2 1) (tenancy5 .planning) = some (.done, [0]) := by decide +kernel

theorem test_reads_refused : answer (.readSeg (hd .A 2) 1024) demo = some (.badIndex, []) ∧
    answer (.readPolicy (hd .A 2) 2 0) demo = some (.outOfRange, []) := by decide +kernel

/-! ## Model edits -/

def writing : State := { demo with store := { demo.store with active := some (.image .A demo.image) } }
def planning : State := { demo with planner := { queue := [], comp := some (Comp.begin (demo.inc 0) 0) } }

/-- A model edit and a policy edit, while an image write runs, while one only waits, and while the planner computes; and a model
edit with an incident in use. -/
theorem test_witness_EditsAreRefusedWhileBusyOrInUse :
    (∀ k, Instr.segDrop (hd .A 2) 200 ≠ .unknownRequest (hd .A 2) k) ∧ isModelEdit (.segDrop (hd .A 2) 200) = true ∧
    (writing.readyRunning (.segDrop (hd .A 2) 200) (hd .A 2) ∧ writing.imageWriting = true) ∧
    (({ demo with store := { demo.store with due := [.image .B demo.image] } } : State).imageWriting = true) ∧
    (planning.readyRunning (.rulePut (hd .A 13) 0 0 0 0 0 0 0 0 0 0 0) (hd .A 13) ∧ planning.plannerBusy = true ∧
      (Instr.rulePut (hd .A 13) 0 0 0 0 0 0 0 0 0 0 0).code? = some 20) ∧
    ((tenancy5 .isolated).readyRunning (.segDrop (hd .A 2) 200) (hd .A 2) ∧ (tenancy5 .isolated).anyInUse = true ∧
      (tenancy5 .isolated).imageWriting = false ∧ (tenancy5 .isolated).plannerBusy = false) ∧ isControl Link.A = true :=
  ⟨by simp, by decide, ⟨running_of (by decide +kernel), by decide +kernel⟩, by decide +kernel,
    ⟨running_of (by decide +kernel), by decide +kernel, by decide⟩,
    ⟨running_of (by decide +kernel), by decide +kernel, by decide +kernel, by decide +kernel⟩, by decide⟩

theorem test_edits_busy : answer (.segDrop (hd .A 2) 200) writing = some (.busy, []) ∧
    answer (.segDrop (hd .A 2) 200) (tenancy5 .isolated) = some (.incidentsActive, []) := by decide +kernel

/-- Each table's index one above its end, and a field one outside its values. -/
theorem test_witness_EditsAreRefusedByTheirOwnTests :
    (demo.readyToEdit (.segPut (hd .A 13) 1024 0 3 500 1000 1600 300 0) (hd .A 13) ∧ 1023 < 1024) ∧
    (demo.readyToEdit (.segPut (hd .A 13) 1023 0 8 500 1000 1600 300 0) (hd .A 13) ∧ 1023 ≤ 1023 ∧
      ∀ x : Seg, x.inRange → x.put (hd .A 13) 1023 ≠ .segPut (hd .A 13) 1023 0 8 500 1000 1600 300 0) ∧
    demo.readyToEdit (.valvePut (hd .A 18) 768 200 201 0 12 300 40 20 2 1000 0 0) (hd .A 18) ∧
    (demo.readyToEdit (.valvePut (hd .A 18) 767 200 201 0 12 300 1501 20 2 1000 0 0) (hd .A 18) ∧
      ∀ x : ValveStatic, x.inRange → x.sideB ≠ some x.sideA →
        x.put (hd .A 18) 767 ≠ .valvePut (hd .A 18) 767 200 201 0 12 300 1501 20 2 1000 0 0) ∧
    demo.readyToEdit (.zonePut (hd .A 7) 8 450 50 900 2) (hd .A 7) ∧
    (demo.readyToEdit (.zonePut (hd .A 7) 7 450 50 900 5) (hd .A 7) ∧
      ∀ x : ZoneRec, x.inRange → x.put (hd .A 7) 7 ≠ .zonePut (hd .A 7) 7 450 50 900 5) ∧
    demo.readyToEdit (.pointPut (hd .A 6) 128 1 200 3 200) (hd .A 6) ∧
    (demo.readyToEdit (.pointPut (hd .A 6) 127 1 200 3 232) (hd .A 6) ∧ 231 < 232) ∧
    demo.readyToEdit (.pointPut (hd .A 6) 127 2 200 3 200) (hd .A 6) ∧
    demo.readyForPolicy (.rulePut (hd .A 13) 32 0 0 0 0 0 0 0 0 0 0) (hd .A 13) ∧
    (demo.readyForPolicy (.rulePut (hd .A 13) 31 1 8 0 0 0 0 0 0 0 0) (hd .A 13) ∧
      ∀ x : Rule, x.inRange → x.put (hd .A 13) 31 ≠ .rulePut (hd .A 13) 31 1 8 0 0 0 0 0 0 0 0) ∧
    demo.readyForPolicy (.groupPut (hd .A 6) 16 1 [3, 8] 3) (hd .A 6) := by
  refine ⟨⟨edit_of (by decide +kernel), by decide⟩, ⟨edit_of (by decide +kernel), by decide, fun x _ e => ?_⟩,
    edit_of (by decide +kernel), ⟨edit_of (by decide +kernel), fun x hx _ e => ?_⟩, edit_of (by decide +kernel),
    ⟨edit_of (by decide +kernel), fun x hx e => ?_⟩, edit_of (by decide +kernel), ⟨edit_of (by decide +kernel), by decide⟩,
    edit_of (by decide +kernel), policy_of (by decide +kernel), ⟨policy_of (by decide +kernel), fun x hx e => ?_⟩,
    policy_of (by decide +kernel)⟩
  · simp only [Seg.put, Instr.segPut.injEq] at e; omega
  · simp only [ValveStatic.put, Instr.valvePut.injEq] at e; simp only [ValveStatic.inRange] at hx; omega
  · simp only [ZoneRec.put, Instr.zonePut.injEq] at e; simp only [ZoneRec.inRange] at hx; omega
  · simp only [Rule.put, Instr.rulePut.injEq] at e
    have hs : x.stage = .valve := by cases hx : x.stage <;> simp_all [Stage.code]
    have ht : x.test = 8 := Fin.ext e.2.2.2.1
    have := hx.1
    rw [hs, ht] at this
    exact absurd this (by decide)

/-- The three later tests of VALVE_PUT: an undefined side, a full list, a taken address. -/
def crowded : State :=
  { demo with segs := tabPut demo.segs 202 (seg (List.range 12)) }

theorem test_witness_ValvePutTestsSixToEight :
    (demo.readyToEdit ((vst 200 (some 202) 0 12 40).put (hd .A 18) 767) (hd .A 18) ∧ (vst 200 (some 202) 0 12 40).inRange ∧
      (vst 200 (some 202) 0 12 40).hasSide 202 ∧ demo.seg? 202 = none) ∧
    (crowded.readyToEdit ((vst 200 (some 202) 0 12 40).put (hd .A 18) 767) (hd .A 18) ∧
      (crowded.seg? 200).isSome ∧ (crowded.seg? 202).isSome ∧
      ((crowded.seg? 202).map fun x => (x.valves.filter (· ≠ 767)).length) = some 12) ∧
    (demo.readyToEdit ((vst 200 (some 201) 1 5 40).put (hd .A 18) 767) (hd .A 18) ∧
      demo.addrTaken 767 (vst 200 (some 201) 1 5 40) = true) ∧
    (vst 200 (some 202) 0 12 40).sideB ≠ some (vst 200 (some 202) 0 12 40).sideA ∧
    (vst 200 (some 202) 0 12 40).sideB ≠ some 65535 :=
  ⟨⟨edit_of (by decide +kernel), by unfold ValveStatic.inRange; decide, Or.inr rfl, by decide +kernel⟩,
    ⟨edit_of (by decide +kernel), by decide +kernel, by decide +kernel, by decide +kernel⟩,
    ⟨edit_of (by decide +kernel), by decide +kernel⟩, by decide, by decide⟩

theorem test_valvePut_refused :
    answer (.valvePut (hd .A 18) 767 200 202 0 12 300 40 20 2 1000 0 0) demo = some (.badIndex, []) ∧
    answer (.valvePut (hd .A 18) 767 200 202 0 12 300 40 20 2 1000 0 0) crowded = some (.listFull, []) ∧
    answer (.valvePut (hd .A 18) 767 200 201 1 5 300 40 20 2 1000 0 0) demo = some (.inUse, []) ∧
    answer (.valvePut (hd .A 18) 767 200 200 0 12 300 40 20 2 1000 0 0) demo = some (.outOfRange, []) := by
  decide +kernel

/-- A new segment at the end of the table, a zone change with nothing in the way, and a zone change of the segment whose point
tripped its zone's guard. -/
def guarded : State := demo.modZone 3 fun z => { z with guard := .guarded, tripping := some 20 }

theorem test_witness_SegPutAndSegDropWriteOneSegment :
    (demo.readyToEdit ((seg []).put (hd .A 13) 1023) (hd .A 13) ∧ (seg []).inRange ∧ demo.seg? 1023 = none) ∧
    (demo.readyToEdit (({ seg [] with zone := 4 } : Seg).put (hd .A 13) 200) (hd .A 13) ∧
      demo.seg? 200 = some (seg [300, 301])) ∧
    (guarded.readyToEdit (({ seg [] with zone := 4 } : Seg).put (hd .A 13) 200) (hd .A 13) ∧ guarded.tripsOn 200 = true) ∧
    demo.readyToEdit (.segDrop (hd .A 2) 1024) (hd .A 2) ∧
    (demo.readyToEdit (.segDrop (hd .A 2) 1023) (hd .A 2) ∧ demo.seg? 1023 = none) ∧
    (demo.readyToEdit (.segDrop (hd .A 2) 200) (hd .A 2) ∧ demo.seg? 200 = some (seg [300, 301])) ∧
    (crowded.readyToEdit (.segDrop (hd .A 2) 202) (hd .A 2)) :=
  ⟨⟨edit_of (by decide +kernel), by unfold Seg.inRange; decide, by decide +kernel⟩,
    ⟨edit_of (by decide +kernel), by decide +kernel⟩, ⟨edit_of (by decide +kernel), by decide +kernel⟩,
    edit_of (by decide +kernel), ⟨edit_of (by decide +kernel), by decide +kernel⟩,
    ⟨edit_of (by decide +kernel), by decide +kernel⟩, edit_of (by decide +kernel)⟩

theorem test_segPut : ran (.segPut (hd .A 13) 1023 1 7 1 300 400 50 2) demo (fun t =>
      decide (t.seg? 1023 = some ⟨.disused, 7, 1, 300, 400, 50, .critical, []⟩) && decide (t.revision = 1)) = true ∧
    ran (.segPut (hd .A 13) 200 0 4 500 1000 1600 300 0) demo (fun t =>
      decide ((t.seg? 200).map (fun x => (x.zone, x.valves)) = some (4, [300, 301]))) = true ∧
    answer (.segPut (hd .A 13) 200 0 4 500 1000 1600 300 0) guarded = some (.inUse, []) := by decide +kernel
theorem test_segDrop : answer (.segDrop (hd .A 2) 200) demo = some (.inUse, []) ∧
    answer (.segDrop (hd .A 2) 1023) demo = some (.badIndex, []) ∧
    ran (.segDrop (hd .A 2) 5) { demo with segs := tabPut demo.segs 5 (seg []) } (fun t => decide (t.segs = demo.segs)) =
      true := by decide +kernel

/-- V303 is new; V300 moves to another node; V300 keeps its node with another normal position. -/
theorem test_witness_ValvePutWritesTheRecordItsSidesAndTheRings :
    ∀ e ∈ [(303, vst 201 (some 210) 2 1 60), (300, vst 200 (some 201) 0 192 40), (300, { vst 200 (some 210) 0 10 40 with
        normal := .closed })],
      demo.modelSound ∧ demo.readyToEdit (e.2.put (hd .A 18) e.1) (hd .A 18) ∧ e.1 ≤ 767 ∧ e.2.inRange ∧
        e.2.sideB ≠ some e.2.sideA ∧ demo.addrTaken e.1 e.2 = false ∧ demo.hasMover e.1 = false ∧
        (∀ n, e.2.hasSide n → ∃ x, demo.seg? n = some x ∧ (x.valves.filter (· ≠ e.1)).length < 12) ∧
        ∀ x, demo.valve? e.1 = some x → demo.isLocked e.1 = true → x.st.line = e.2.line ∧ x.st.addr = e.2.addr := by
  have side (n : Nat) (h : n = 200 ∨ n = 201 ∨ n = 210) (v : Nat) :
      ∃ x, demo.seg? n = some x ∧ (x.valves.filter (· ≠ v)).length < 12 := by
    have (l : List Nat) (hl : l.length ≤ 2) : (l.filter (· ≠ v)).length < 12 :=
      Nat.lt_of_le_of_lt (Nat.le_trans (List.length_filter_le _ _) hl) (by decide)
    rcases h with rfl | rfl | rfl
    · exact ⟨seg [300, 301], by decide +kernel, this _ (by decide)⟩
    · exact ⟨seg [301, 302], by decide +kernel, this _ (by decide)⟩
    · exact ⟨seg [300], by decide +kernel, this _ (by decide)⟩
  have free (v : Nat) : demo.isLocked v = false := rfl
  intro e m
  simp only [List.mem_cons, List.not_mem_nil, or_false] at m
  rcases m with rfl | rfl | rfl
  · refine ⟨demo_sound, edit_of (by decide +kernel), by decide, by unfold ValveStatic.inRange; decide, by decide,
      by decide +kernel, by decide +kernel, fun n h => side n ?_ _, fun x _ h => absurd h (by rw [free]; decide)⟩
    simp only [ValveStatic.hasSide, vst, Option.some.injEq] at h; omega
  · refine ⟨demo_sound, edit_of (by decide +kernel), by decide, by unfold ValveStatic.inRange; decide, by decide,
      by decide +kernel, by decide +kernel, fun n h => side n ?_ _, fun x _ h => absurd h (by rw [free]; decide)⟩
    simp only [ValveStatic.hasSide, vst, Option.some.injEq] at h; omega
  · refine ⟨demo_sound, edit_of (by decide +kernel), by decide, by unfold ValveStatic.inRange; decide, by decide,
      by decide +kernel, by decide +kernel, fun n h => side n ?_ _, fun x _ h => absurd h (by rw [free]; decide)⟩
    simp only [ValveStatic.hasSide, vst, Option.some.injEq] at h; omega

theorem test_valvePut_new : ran (.valvePut (hd .A 18) 303 201 65535 2 1 300 60 20 2 1000 1 1) demo (fun t =>
    decide ((t.valve? 303).map (·.vol) = some ValveVol.fresh) && decide ((t.seg? 201).map (·.valves) = some [301, 302, 303]) &&
      decide ((t.line 2).nodes = [(1, fresh0)]) && decide ((t.line 2).round = 1) && decide (t.revision = 1) &&
      decide ((t.valve? 303).map (fun x => (x.st.sideB, x.st.normal, x.st.mark)) = some (none, .closed, .inoperable))) =
    true := by decide +kernel
/-- What a release said of V300 stays with its normal position and turns, and ends with either (log 41). -/
theorem test_valvePut_released :
    [(40, 0, true), (39, 0, false), (40, 1, false)].all (fun e =>
      ran (.valvePut (hd .A 18) 300 200 210 0 10 300 e.1 20 2 1001 e.2.1 0) (demo.modVol 300 fun x => { x with released := true })
        fun t => decide ((t.valve? 300).map (·.vol.released) = some e.2.2)) = true := by decide +kernel
theorem test_valvePut_moves : ran (.valvePut (hd .A 18) 300 200 201 0 192 300 40 20 2 1000 0 0) demo (fun t =>
    decide ((t.seg? 210).map (·.valves) = some []) && decide ((t.seg? 200).map (·.valves) = some [301, 300]) &&
      decide ((t.seg? 201).map (·.valves) = some [301, 302, 300]) &&
      decide ((t.line 0).nodes.map (·.1) = [11, 192]) && decide ((t.valve? 300).map (·.vol.status) = some .unknown)) = true := by
  decide +kernel

/-- A locked valve is IN_USE, an undefined one BAD_INDEX, an idle one leaves the model. -/
def locked300 : State := { demo with locks := [⟨300, .B, 40⟩] }

theorem test_witness_ValveDropTakesTheValveOutOfTheModel : demo.modelSound ∧
    (demo.readyToEdit (.valveDrop (hd .A 2) 768) (hd .A 2)) ∧
    (demo.readyToEdit (.valveDrop (hd .A 2) 767) (hd .A 2) ∧ demo.valve? 767 = none) ∧
    (demo.readyToEdit (.valveDrop (hd .A 2) 300) (hd .A 2) ∧ (demo.valve? 300).isSome ∧ demo.hasMover 300 = false ∧
      demo.isLocked 300 = false) ∧
    (locked300.modelSound ∧ locked300.readyToEdit (.valveDrop (hd .A 2) 300) (hd .A 2) ∧ locked300.isLocked 300 = true) :=
  ⟨demo_sound, edit_of (by decide +kernel), ⟨edit_of (by decide +kernel), by decide +kernel⟩,
    ⟨edit_of (by decide +kernel), by decide +kernel, by decide +kernel, by decide +kernel⟩,
    sound_of (by decide +kernel) (by decide +kernel), edit_of (by decide +kernel), by decide +kernel⟩

theorem test_valveDrop : ran (.valveDrop (hd .A 2) 300) demo (fun t =>
      decide (t.valve? 300 = none) && decide ((t.seg? 200).map (·.valves) = some [301]) &&
        decide ((t.seg? 210).map (·.valves) = some []) && decide ((t.line 0).nodes.map (·.1) = [11])) = true ∧
    answer (.valveDrop (hd .A 2) 300) locked300 = some (.inUse, []) := by decide +kernel

def slow300 : State :=
  { (demo.modVol 300 fun x => { x with motion := .closeSlow }).setSlot 0 0 (some
      { owner := .step 0 5, valve := 300, dir := .closing, figures := none, motionTimer := some 90, stopTimer := none
        stop := none, reversal := none, stepNo := none }) with now := 1 }

theorem test_witness_ZonePutAndFeedSetReplaceTheirRecords :
    (demo.readyToEdit (({ zoneRec with allowance := 4 } : ZoneRec).put (hd .A 7) (7 : Fin 8).val) (hd .A 7) ∧
      ({ zoneRec with allowance := 4 } : ZoneRec).inRange ∧ ¬ 4 < demo.slowCount 7) ∧
    (0 < slow300.slowCount 3) ∧
    (demo.readyToEdit (.feedSet (hd .A 35) (List.range 17)) (hd .A 35) ∧ 16 < (List.range 17).length) ∧
    (demo.readyToEdit (.feedSet (hd .A 5) [200, 202]) (hd .A 5) ∧ demo.seg? 202 = none) ∧
    (demo.readyToEdit (.feedSet (hd .A 5) [201, 200]) (hd .A 5) ∧ [201, 200].Nodup ∧ (demo.seg? 201).isSome ∧
      (demo.seg? 200).isSome) :=
  ⟨⟨edit_of (by decide +kernel), by unfold ZoneRec.inRange; decide, by decide +kernel⟩, by decide +kernel,
    ⟨edit_of (by decide +kernel), by decide⟩, ⟨edit_of (by decide +kernel), by decide +kernel⟩, edit_of (by decide +kernel),
    by decide, by decide +kernel, by decide +kernel⟩

theorem test_zonePut : ran (.zonePut (hd .A 7) 7 100 200 60 4) demo (fun t =>
    decide ((t.zone 7).record = ⟨100, 200, 60, 4⟩) && decide ((t.zone 3).record = zoneRec) && decide (t.revision = 1)) = true ∧
    answer (.zonePut (hd .A 7) 7 99 200 60 4) demo = some (.outOfRange, []) := by decide +kernel
theorem test_feedSet : ran (.feedSet (hd .A 5) [201, 200]) demo (fun t => decide (t.feeds = [201, 200])) = true ∧
    answer (.feedSet (hd .A 5) [200, 200]) demo = some (.outOfRange, []) ∧
    answer (.feedSet (hd .A 5) [200, 202]) demo = some (.badIndex, []) := by decide +kernel

/-- A new assignment, the same one, a taken segment, an undefined one, and the tripping point of a GUARDED zone; and both cases of
unassigning. -/
theorem test_witness_PointPutAssignsOrUnassignsThePoint :
    demo.modelSound ∧ guarded.modelSound ∧
    (demo.readyToEdit (({ seg := 201, line := 2, addr := 231 } : PointAssign).put (hd .A 6) 127) (hd .A 6) ∧
      (demo.seg? 201).isSome ∧ demo.pointTaken 127 { seg := 201, line := 2, addr := 231 } = false ∧
      demo.isTripping 127 = false ∧ demo.point? 127 = none) ∧
    (demo.readyToEdit (point20.put (hd .A 6) 20) (hd .A 6) ∧ (demo.point? 20).map (·.asg) = some point20) ∧
    (demo.readyToEdit (point20.put (hd .A 6) 127) (hd .A 6) ∧ demo.pointTaken 127 point20 = true) ∧
    (demo.readyToEdit (({ point20 with seg := 202 } : PointAssign).put (hd .A 6) 20) (hd .A 6) ∧ demo.seg? 202 = none) ∧
    (guarded.readyToEdit (.pointPut (hd .A 6) 20 0 0 0 0) (hd .A 6) ∧ guarded.isTripping 20 = true) ∧
    (demo.readyToEdit (.pointPut (hd .A 6) 20 0 0 0 0) (hd .A 6) ∧ demo.isTripping 20 = false) ∧
    demo.readyToEdit (.pointPut (hd .A 6) 127 0 0 0 0) (hd .A 6) :=
  ⟨demo_sound, sound_of (by decide +kernel) (by decide +kernel),
    ⟨edit_of (by decide +kernel), by decide +kernel, by decide +kernel, by decide +kernel, by decide +kernel⟩,
    ⟨edit_of (by decide +kernel), by decide +kernel⟩, ⟨edit_of (by decide +kernel), by decide +kernel⟩,
    ⟨edit_of (by decide +kernel), by decide +kernel⟩, ⟨edit_of (by decide +kernel), by decide +kernel⟩,
    ⟨edit_of (by decide +kernel), by decide +kernel⟩, edit_of (by decide +kernel)⟩

theorem test_pointPut : ran (.pointPut (hd .A 6) 127 1 201 2 231) demo (fun t =>
      decide (t.point? 127 = some (Point.start ⟨201, 2, 231⟩)) && decide ((t.line 2).nodes.map (·.1) = [231])) = true ∧
    answer (.pointPut (hd .A 6) 127 1 200 2 231) demo = some (.inUse, []) := by decide +kernel
theorem test_pointPut_clear : ran (.pointPut (hd .A 6) 20 0 9 9 9) demo (fun t =>
      decide (t.points = []) && decide ((t.line 3).nodes = [])) = true ∧
    answer (.pointPut (hd .A 6) 20 0 0 0 0) guarded = some (.inUse, []) := by decide +kernel

/-! ## Policy edits -/

def rule9 : Rule := { Rule.empty with stage := .plan, test := 14, cmp := .inRange, low := 1, high := 2, cls := .gentle, mode := .set, value := 3 }

/-- Group 4 is enabled over rules 3 and 8, both OFF. -/
def grouped : State := { demo with groups := demo.groups.set 4 { enabled := true, members := [3, 8], lead := 3 } }

theorem test_witness_RulePutAndGroupPutReplaceOneEntry :
    (demo.readyForPolicy (rule9.put (hd .A 13) (31 : Fin 32).val) (hd .A 13) ∧ rule9.inRange ∧
      ¬ ∃ g : Fin 16, (demo.groups.get g).enabled = true) ∧
    (grouped.readyForPolicy (rule9.put (hd .A 13) (3 : Fin 32).val) (hd .A 13) ∧ (grouped.groups.get 4).enabled = true ∧
      (3 : Fin 32) ∈ (grouped.groups.get 4).members ∧ (8 : Fin 32) ∈ (grouped.groups.get 4).members ∧
      (grouped.rules.get 8).stage ≠ rule9.stage) ∧
    (demo.readyForPolicy (.groupPut (hd .A 6) (15 : Fin 16).val 1 [3, 32] 3) (hd .A 6) ∧ 31 < 32) ∧
    (demo.readyForPolicy (.groupPut (hd .A 6) (15 : Fin 16).val 1 [3, 8] 4) (hd .A 6) ∧ 4 ∉ [3, 8]) ∧
    (({ demo with rules := demo.rules.set 3 rule9 } : State).readyForPolicy (.groupPut (hd .A 6) (15 : Fin 16).val 1 [3, 8] 3)
        (hd .A 6) ∧ (({ demo with rules := demo.rules.set 3 rule9 } : State).rules.get 3).stage ≠
        (({ demo with rules := demo.rules.set 3 rule9 } : State).rules.get 8).stage) ∧
    (demo.readyForPolicy (.groupPut (hd .A 6) (15 : Fin 16).val 1 [8, 3] 3) (hd .A 6)) :=
  ⟨⟨policy_of (by decide +kernel), by unfold Rule.inRange; decide, by decide +kernel⟩,
    ⟨policy_of (by decide +kernel), by decide +kernel, by decide +kernel, by decide +kernel, by decide +kernel⟩,
    ⟨policy_of (by decide +kernel), by decide⟩, ⟨policy_of (by decide +kernel), by decide⟩,
    ⟨policy_of (by decide +kernel), by decide +kernel⟩, policy_of (by decide +kernel)⟩

theorem test_rulePut : ran (.rulePut (hd .A 13) 31 2 14 2 1 2 0 2 0 3 3) demo (fun t =>
      decide (t.rules.get 31 = rule9) && decide (t.revision = 0)) = true ∧
    answer (.rulePut (hd .A 13) 3 2 14 2 1 2 0 2 0 3 3) grouped = some (.mixedStage, []) ∧
    answer (.rulePut (hd .A 13) 3 2 14 2 2 1 0 2 0 3 3) demo = some (.outOfRange, []) := by decide +kernel
theorem test_groupPut : ran (.groupPut (hd .A 7) 15 1 [8, 3, 8] 3) demo (fun t =>
      decide (t.groups.get 15 = { enabled := true, members := [3, 8], lead := 3 })) = true ∧
    answer (.groupPut (hd .A 6) 15 1 [3, 8] 4) demo = some (.badIndex, []) := by decide +kernel

/-! ## Service requests -/

theorem test_witness_GrantModeReplacesTheMode :
    demo.readyRunning (.grantMode (hd .A 1) 0 0 0) (hd .A 1) ∧ demo.readyRunning (.grantMode (hd .A 1) 1 0 0) (hd .A 1) ∧
    ((tenancy5 .isolated).readyRunning (.grantMode (hd .A 4) 2 0 5) (hd .A 4) ∧ (tenancy5 .isolated).tenancy 0 5 = true) ∧
    (demo.readyRunning (.grantMode (hd .A 4) 2 15 5) (hd .A 4) ∧ demo.tenancy 15 5 = false) ∧
    demo.readyRunning (.grantMode (hd .A 4) 2 16 5) (hd .A 4) ∧ demo.readyRunning (.grantMode (hd .A 1) 3 0 0) (hd .A 1) :=
  ⟨running_of (by decide +kernel), running_of (by decide +kernel), ⟨running_of (by decide +kernel), by decide +kernel⟩,
    ⟨running_of (by decide +kernel), by decide +kernel⟩, running_of (by decide +kernel), running_of (by decide +kernel)⟩

theorem test_grantMode : ran (.grantMode (hd .A 4) 2 0 5) (tenancy5 .isolated)
      (fun t => decide (t.grantMode = .preferred 0 5)) = true ∧
    answer (.grantMode (hd .A 4) 2 0 4) (tenancy5 .isolated) = some (.staleTag, []) ∧
    answer (.grantMode (hd .A 4) 2 16 5) demo = some (.badIndex, []) ∧
    answer (.grantMode (hd .A 1) 3 0 0) demo = some (.outOfRange, []) := by decide +kernel

def lineIn (x : LineState) : State := demo.modLine 0 fun y => { y with state := x }

theorem test_witness_LineStopAndLineStartSetTheLineState :
    (demo.readyRunning (.lineStop (hd .A 1) 4) (hd .A 1) ∧ 3 < 4) ∧
    (demo.readyRunning (.lineStop (hd .A 1) 3) (hd .A 1) ∧ (demo.line 3).state = .running) ∧
    ((lineIn .stopped).readyRunning (.lineStop (hd .A 1) 0) (hd .A 1) ∧ ((lineIn .stopped).line 0).state ≠ .running) ∧
    (demo.readyRunning (.lineStart (hd .A 1) 4) (hd .A 1)) ∧
    (demo.readyRunning (.lineStart (hd .A 1) 0) (hd .A 1) ∧ (demo.line 0).state = .running) ∧
    ((lineIn .stopping).readyRunning (.lineStart (hd .A 1) 0) (hd .A 1) ∧ ((lineIn .stopping).line 0).state = .stopping) ∧
    ((lineIn .stopped).readyRunning (.lineStart (hd .A 1) 0) (hd .A 1) ∧ ((lineIn .stopped).line 0).state = .stopped) :=
  ⟨⟨running_of (by decide +kernel), by decide⟩, ⟨running_of (by decide +kernel), by decide +kernel⟩,
    ⟨running_of (by decide +kernel), by decide +kernel⟩, running_of (by decide +kernel),
    ⟨running_of (by decide +kernel), by decide +kernel⟩, ⟨running_of (by decide +kernel), by decide +kernel⟩,
    running_of (by decide +kernel), by decide +kernel⟩

/-- Line 0 does not run and the steps of V300 and V301 are offered on it (R172). -/
def offered (x : LineState) : State :=
  ((heldIn .closing .waiting).modInc 0 fun x => { x with current := some 1 }).modLine 0 fun y => { y with state := x }

/-- V300's closing is being stopped when its step is offered again: it waits for the slot, and nothing is due. -/
def waitsForSlot : State :=
  (((offered .running).modLine 0 fun x => { x with slots := #v[some (closingMotion 300), none, none, none] }).setMotion 300
    .stopping).settle

theorem test_witness_LineRulesThatFallDue :
    (∀ x ∈ [LineState.stopping, .stopped], (offered x).lineRule?.isSome = true ∧ ((offered x).inc 0).tag ≠ none ∧
      ∀ v ∈ [300, 301], ((offered x).inc 0).stepFor v = some (stepOf v .waiting 1) ∧
        ((offered x).inc 0).closingOffer (stepOf v .waiting 1) = true ∧
        ((offered x).valve? v).map (fun y => ((offered x).line y.st.line).state) = some x) ∧
    (((lineIn .stopping).stopped?).isSome = true ∧ ∀ j, (lineIn .stopping).motionAt 0 j = none) ∧
    waitsForSlot.due? = none ∧ stepOf 300 .waiting 1 ∈ (waitsForSlot.inc 0).steps ∧
    (waitsForSlot.inc 0).closingOffer (stepOf 300 .waiting 1) = true ∧ (waitsForSlot.valve? 300).isSome = true := by
  decide +kernel

/-- LINE_STOP fails every step offered on the line, with an exclusion list that the first fills too (R172). -/
theorem test_lineStop_fails_all : ran (.lineStop (hd .A 1) 0) ((offered .running).modInc 0 fun x =>
      { x with excl := List.range 15 }) (fun t =>
    decide ((t.inc 0).state = .planFailed) && decide ((t.inc 0).steps.map (fun y => (y.state, y.cause)) =
      [(.failed, some .lineStopped), (.failed, some .lineStopped)])) = true := by decide +kernel

/-- An idle line of an idle block is STOPPED at once (R42), and the flag LINE_CHANGE is raised. -/
theorem test_lineStop : ran (.lineStop (hd .A 1) 0) demo (fun t =>
    decide ((t.line 0).state = .stopped) && decide (t.portB.device = 0x02)) = true := by decide +kernel
/-- From STOPPED a line breaks its valves' chains, keeping what was accepted, and polls from its lowest node (R43). -/
theorem test_lineStart : ran (.lineStart (hd .A 1) 0) (lineIn .stopped) (fun t =>
    decide ((t.line 0).state = .running) && decide ((t.line 0).round = 2) &&
      decide ((t.valve? 300).map (fun x => (x.vol.agreement, x.vol.accepted, x.vol.openRun)) = some (0, some 40, 0)) &&
      decide ((t.line 0).txn = some { addr := 10, kind := .query, visit := true, gone := false })) = true := by decide +kernel

/-! ## Service marks -/

theorem test_witness_MarkWritesTheServiceMarks :
    (demo.readyRunning (.mark (hd .A 34) (List.replicate 16 300) ServiceMark.inService.code) (hd .A 34) ∧
      (List.replicate 16 300).length ≤ 16 ∧ ∀ v ∈ List.replicate 16 300, demo.valve? v ≠ none) ∧
    ((heldIn .closing .waiting).readyRunning (.mark (hd .A 4) [300] ServiceMark.inoperable.code) (hd .A 4) ∧
      ((heldIn .closing .waiting).inc 0).state = .closing ∧
      ((heldIn .closing .waiting).inc 0).stepFor 300 = some (stepOf 300 .waiting 1) ∧
      300 ∉ ((heldIn .closing .waiting).inc 0).excl ∧ ((heldIn .closing .waiting).inc 0).excl.length < 16) ∧
    demo.readyRunning (.mark (hd .A 2) [] 0) (hd .A 2) ∧
    demo.readyRunning (.mark (hd .A 36) (List.replicate 17 300) 0) (hd .A 36) ∧
    (demo.readyRunning (.mark (hd .A 4) [767] 1) (hd .A 4) ∧ demo.valve? 767 = none) :=
  ⟨⟨running_of (by decide +kernel), by decide, by decide +kernel⟩,
    ⟨running_of (by decide +kernel), by decide +kernel, by decide +kernel, by decide +kernel, by decide +kernel⟩,
    running_of (by decide +kernel), running_of (by decide +kernel), running_of (by decide +kernel), by decide +kernel⟩

theorem test_mark : ran (.mark (hd .A 6) [300, 301] 0) (demo.setMotion 300 .stuck) (fun t =>
      decide (t.motion 300 = .atRest) && decide (t.revision = 0)) = true ∧
    ran (.mark (hd .A 4) [300] 1) (heldIn .closing .waiting) (fun t =>
      decide ((t.valve? 300).map (·.st.mark) = some .inoperable) && decide ((t.inc 0).state = .replanning) &&
        decide ((t.inc 0).excl = [300])) = true := by decide +kernel
theorem test_mark_refused : answer (.mark (hd .A 2) [] 0) demo = some (.outOfRange, []) ∧
    answer (.mark (hd .A 4) [767] 0) demo = some (.badIndex, []) := by decide +kernel

/-! ## Locks and releases -/

def sixtyFour : List LockEntry := (List.range 64).map fun v => { valve := v, link := .A, position := 0 }
def listFull : State := { demo with locks := sixtyFour }
def stale300 : State := demo.modVol 300 fun x => { x with status := .stale }
def otherWrite : State := { demo with store := { demo.store with active := some (.image .B demo.image) } }

theorem test_witness_LockAddsAnEntryAndTheReplyWaits :
    (∀ s ∈ [demo, otherWrite, { demo with locks := sixtyFour.take 63 }],
      s.readyRunning (.lock (hd .S 2) 300) (hd .S 2) ∧ s.valve? 300 = some ⟨vst 200 (some 210) 0 10 40, opened 40⟩ ∧
        s.isLocked 300 = false ∧ s.hasMover 300 = false ∧ s.locks.length < 64) ∧
    (demo.readyRunning (.lock (hd .S 2) 768) (hd .S 2) ∧ demo.valve? 768 = none) ∧
    (locked300.readyRunning (.lock (hd .S 2) 300) (hd .S 2) ∧ locked300.isLocked 300 = true) ∧
    (slow300.readyRunning (.lock (hd .S 2) 300) (hd .S 2) ∧ slow300.motion 300 ≠ .atRest) ∧
    (stale300.readyRunning (.lock (hd .S 2) 300) (hd .S 2) ∧ (stale300.valve? 300).map (·.vol.status) = some .stale) ∧
    (listFull.readyRunning (.lock (hd .S 2) 300) (hd .S 2) ∧ 64 ≤ listFull.locks.length) := by
  refine ⟨fun s m => ?_, ⟨running_of (by decide +kernel), by decide +kernel⟩,
    ⟨running_of (by decide +kernel), by decide +kernel⟩, ⟨running_of (by decide +kernel), by decide +kernel⟩,
    ⟨running_of (by decide +kernel), by decide +kernel⟩, running_of (by decide +kernel), by decide +kernel⟩
  simp only [List.mem_cons, List.not_mem_nil, or_false] at m
  rcases m with rfl | rfl | rfl
  all_goals exact ⟨running_of (by decide +kernel), by decide +kernel, by decide +kernel, by decide +kernel, by decide +kernel⟩

/-- The entry keeps the accepted position, the write begins, the slot stays held and no reply is made (R55, R56, R186). -/
theorem test_lock : ran (.lock (hd .S 2) 300) demo (fun t =>
      decide (t.locks = [⟨300, .S, 40⟩]) && decide (t.store.active = some (.locks .S [⟨300, .S, 40⟩])) &&
        decide (t.portS.slot = some { code := 27, tag := 7 }) && decide (t.portA.device = 0x04)) = true ∧
    answer (.lock (hd .S 2) 300) locked300 = some (.locked, []) ∧ answer (.lock (hd .S 2) 300) slow300 = some (.moving, []) ∧
    answer (.lock (hd .S 2) 300) stale300 = some (.stale, []) ∧
    answer (.lock (hd .S 2) 300) listFull = some (.tableFull, []) := by decide +kernel

theorem test_witness_UnlockRemovesTheEntry :
    (demo.readyRunning (.unlock (hd .A 3) 300 2) (hd .A 3) ∧ permitted (.unlock (hd .A 3) 300 2) .A = true) ∧
    (demo.readyRunning (.unlock (hd .A 3) 768 1) (hd .A 3) ∧ 767 < 768) ∧
    (demo.readyRunning (.unlock (hd .A 3) 767 0) (hd .A 3) ∧ demo.lockOf 767 = none) ∧
    (locked300.readyRunning (.unlock (hd .A 3) 300 0) (hd .A 3) ∧ locked300.lockOf 300 = some ⟨300, .B, 40⟩ ∧
      permitted (.unlock (hd .A 3) 300 0) .A = true) ∧
    (locked300.readyRunning (.unlock (hd .A 3) 300 1) (hd .A 3) ∧ permitted (.unlock (hd .A 3) 300 1) .A = true) ∧
    (locked300.readyRunning (.unlock (hd .B 3) 300 0) (hd .B 3) ∧ permitted (.unlock (hd .B 3) 300 0) .B = true) :=
  ⟨⟨running_of (by decide +kernel), by decide⟩, ⟨running_of (by decide +kernel), by decide⟩,
    ⟨running_of (by decide +kernel), by decide +kernel⟩, ⟨running_of (by decide +kernel), by decide +kernel, by decide⟩,
    ⟨running_of (by decide +kernel), by decide⟩, running_of (by decide +kernel), by decide⟩

theorem test_unlock : ran (.unlock (hd .A 3) 300 1) locked300 (fun t =>
      decide (t.locks = []) && decide (t.store.active = some (.locks .A []))) = true ∧
    answer (.unlock (hd .A 3) 300 0) locked300 = some (.notOwner, []) ∧
    answer (.unlock (hd .A 3) 301 0) locked300 = some (.wrongState, []) := by decide +kernel

/-- V301 stands at 7 of its 32 turns, held by nothing: an orphan. -/
def orphan301 : State := demo.modVol 301 fun x => { x with accepted := some 7, reported := some 7, openRun := 0 }

theorem test_witness_ReleaseOfAnOrphanWaitsForItsGrant :
    (demo.readyRunning (.release (hd .S 2) 768) (hd .S 2) ∧ demo.valve? 768 = none) ∧
    (orphan301.readyRunning (.release (hd .S 2) 301) (hd .S 2) ∧
      ((orphan301.valve? 301).map fun x => (orphan301.dispositionOf 301 x, x.vol.motion)) = some (.orphan, .atRest)) ∧
    (demo.readyRunning (.release (hd .S 2) 301) (hd .S 2) ∧
      ((demo.valve? 301).map fun x => demo.dispositionOf 301 x) = some .atNormal) :=
  ⟨⟨running_of (by decide +kernel), by decide +kernel⟩, ⟨running_of (by decide +kernel), by decide +kernel⟩,
    running_of (by decide +kernel), by decide +kernel⟩

/-- The release is granted at once and asks for the allowance for its crack phase, 7 to 8 (R60, R106, R167). -/
theorem test_release : ran (.release (hd .S 2) 301) orphan301 (fun t =>
      decide (t.motion 301 = .openSlow) && decide ((t.zone 3).holders = [301]) && decide (t.releaseCount = 1) &&
        decide ((t.motionAt 0 0).map (·.owner) = some (.release 1))) = true ∧
    answer (.release (hd .S 2) 301) demo = some (.wrongState, []) := by decide +kernel

/-- An orphan in RUNNING with the count still at 0: the count rises and every link takes the flag (R59); in STARTING it reads 0. -/
theorem test_orphans_counted : orphan301.orphanCount = 0 ∧ orphan301.refreshOrphans.orphanCount = 1 ∧
    (∀ l ∈ [Link.A, .B, .S], (orphan301.refreshOrphans.port l).device &&& DevFlag.orphansPresent.bit ≠ 0) ∧
    ({ orphan301 with device := .starting } : State).refreshOrphans.orphanCount = 0 := by decide +kernel

/-! ## Attention requests -/

def flagged : State := demo.modPort .B fun p =>
  { p with device := 0x3F, copies := p.copies.set 15 { tag := some 9, pending := 0x1FFF } }

theorem test_witness_NoticeMaskAndAckChangeTheirLinkOnly :
    (∀ e ∈ [(8191, 63, 0), (8191, 63, 1), (8192, 0, 0), (0, 64, 0), (0, 0, 2)],
      demo.readyRunning (.noticeMask (hd .B 4) e.1 e.2.1 e.2.2) (hd .B 4)) ∧
    (demo.readyRunning (.ack (hd .B 4) 255 0 63) (hd .B 4) ∧ demo.readyRunning (.ack (hd .B 4) 255 0 64) (hd .B 4)) ∧
    (demo.readyRunning (.ack (hd .B 5) 16 9 0) (hd .B 5) ∧ demo.readyRunning (.ack (hd .B 5) 254 9 0) (hd .B 5)) ∧
    (flagged.readyRunning (.ack (hd .B 5) 15 9 8191) (hd .B 5) ∧ (15 : Fin 16).val = 15 ∧
      ((flagged.port .B).copies.get 15).tag = some 9) ∧
    demo.readyRunning (.ack (hd .B 5) 15 9 8192) (hd .B 5) ∧
    (flagged.readyRunning (.ack (hd .B 5) 15 8 1) (hd .B 5) ∧ ((flagged.port .B).copies.get 15).tag ≠ some 8) := by
  refine ⟨fun e m => ?_, ⟨running_of (by decide +kernel), running_of (by decide +kernel)⟩,
    ⟨running_of (by decide +kernel), running_of (by decide +kernel)⟩,
    ⟨running_of (by decide +kernel), rfl, by decide +kernel⟩, running_of (by decide +kernel),
    running_of (by decide +kernel), by decide +kernel⟩
  simp only [List.mem_cons, List.not_mem_nil, or_false] at m
  rcases m with rfl | rfl | rfl | rfl | rfl
  all_goals exact running_of (by decide +kernel)

theorem test_noticeMask : ran (.noticeMask (hd .B 4) 0x0003 0x21 0) demo (fun t =>
      decide (t.portB.incMask = 0x1FFC) && decide (t.portB.devMask = 0x1E) && decide (t.portA.incMask = 0x1FFF)) = true ∧
    answer (.noticeMask (hd .B 4) 8192 0 1) demo = some (.outOfRange, []) := by decide +kernel
theorem test_ack : ran (.ack (hd .B 5) 15 9 0x1001) flagged (fun t =>
      decide ((t.portB.copies.get 15).pending = 0x0FFE) && decide (t.portB.device = 0x3F)) = true ∧
    ran (.ack (hd .B 4) 255 0 0x03) flagged (fun t => decide (t.portB.device = 0x3C)) = true ∧
    answer (.ack (hd .B 5) 15 8 1) flagged = some (.staleTag, []) := by decide +kernel

/-! ## The store -/

theorem test_witness_ModelStoreCapturesTheImage :
    (demo.readyRunning (.modelStore (hd .A 0)) (hd .A 0) ∧ demo.imageWriting = false ∧ demo.store.active = none) ∧
    (writing.readyRunning (.modelStore (hd .A 0)) (hd .A 0) ∧ writing.imageWriting = true) ∧
    (let s : State := { demo with store := { demo.store with active := some (.locks .S []) } }
     s.readyRunning (.modelStore (hd .A 0)) (hd .A 0) ∧ s.imageWriting = false ∧ s.store.active ≠ none) :=
  ⟨⟨running_of (by decide +kernel), by decide +kernel, by decide +kernel⟩,
    ⟨running_of (by decide +kernel), by decide +kernel⟩, running_of (by decide +kernel), by decide +kernel, by decide +kernel⟩

theorem test_modelStore : ran (.modelStore (hd .A 0)) demo (fun t =>
      decide (t.store.active = some (.image .A demo.image)) && decide (t.portA.slot = some { code := 22, tag := 7 })) = true ∧
    answer (.modelStore (hd .B 0)) writing = some (.busy, []) := by decide +kernel

def imageEnds : State := writing.modPort .A fun p => { p with slot := some { code := 22, tag := 9 } }
def locksEnd : State :=
  ({ demo with store := { demo.store with
      active := some (.locks .S [⟨300, .S, 40⟩])
      due := [.image .A demo.image] } } : State).modPort .S fun p => { p with slot := some { code := 27, tag := 9 } }

/-- Both ends, with what is read back checking and not (the CRC-32 of no bytes is 0). -/
theorem test_witness_StoreWriteEndAnswersItsRequest :
    ((imageEnds.port .A).slot = some { code := 22, tag := 9 } ∧ imageEnds.store.active = some (.image .A demo.image)) ∧
    ((locksEnd.port .S).slot = some { code := 27, tag := 9 } ∧ locksEnd.store.active = some (.locks .S [⟨300, .S, 40⟩])) ∧
    crc32 [] = 0 ∧ crc32 [] ≠ 1 := by decide +kernel

theorem test_imageWriteEnd : ran (.imageWriteEnd digits 0xCBF43926) imageEnds (fun t =>
      decide (t.store.image = .good demo.image) && decide (t.store.active = none) && decide (t.portA.slot = none) &&
        decide (t.portA.sending = some (.reply { kind := 22, tag := 9, outcome := .done, items := [] }))) = true ∧
    ran (.imageWriteEnd digits 0) imageEnds (fun t =>
      decide (t.store.image = .bad) && decide (t.portB.device = 0x20)) = true := by decide +kernel
theorem test_lockAreaWriteEnd : ran (.lockAreaWriteEnd [] 0) locksEnd (fun t =>
    decide (t.store.locks = .good [⟨300, .S, 40⟩]) && decide (t.store.active = some (.image .A demo.image)) &&
      decide (t.store.due = [])) = true := by decide +kernel

/-! ## Incidents -/

def disused : State := { demo with segs := tabPut demo.segs 205 { seg [] with use := .disused } }
def tableFull : State := { demo with incidents := Vector.ofFn fun k : Fin 16 =>
  { Incident.empty with state := .planning, tag := some k.val, link := some .A, burst := some (500 + k.val) } }

theorem test_witness_OpenTakesTheLowestFreeSlot :
    (demo.readyRunning (.openInc (hd .S 3) 200 255) (hd .S 3) ∧ demo.seg? 200 = some (seg [300, 301]) ∧
      demo.inZone 200 = false ∧ (demo.inc 0).state = .free ∧ demo.planner.queue = [] ∧ demo.planner.comp = none) ∧
    (planning.readyRunning (.openInc (hd .S 3) 200 1) (hd .S 3) ∧ planning.planner.comp ≠ none ∧
      (∀ c, planning.planner.comp = some c → c.tag ≠ nextTag planning.tagCounter)) ∧
    ((tenancy5 .planning).readyRunning (.openInc (hd .S 3) 201 1) (hd .S 3) ∧ (tenancy5 .planning).inZone 201 = false ∧
      ((tenancy5 .planning).inc 1).state = .free ∧ ∀ j, j < 1 → ((tenancy5 .planning).inc j).state ≠ .free) ∧
    (demo.readyRunning (.openInc (hd .S 3) 1024 1) (hd .S 3) ∧ demo.seg? 1024 = none) ∧
    (disused.readyRunning (.openInc (hd .S 3) 205 1) (hd .S 3) ∧ (disused.seg? 205).map (·.use) = some .disused) ∧
    ((heldIn .closing .moving).readyRunning (.openInc (hd .S 3) 200 1) (hd .S 3) ∧
      200 ∈ ((heldIn .closing .moving).inc 0).zoneList) ∧
    (tableFull.readyRunning (.openInc (hd .S 3) 200 1) (hd .S 3) ∧ ∀ k : Fin 16, (tableFull.inc k).state ≠ .free) := by
  refine ⟨⟨running_of (by decide +kernel), by decide +kernel, by decide +kernel, by decide +kernel, by decide +kernel,
      by decide +kernel⟩, ⟨running_of (by decide +kernel), by decide +kernel, fun c h => ?_⟩,
    ⟨running_of (by decide +kernel), by decide +kernel, by decide +kernel, by decide +kernel⟩,
    ⟨running_of (by decide +kernel), by decide +kernel⟩, ⟨running_of (by decide +kernel), by decide +kernel⟩,
    ⟨running_of (by decide +kernel), by decide +kernel⟩, running_of (by decide +kernel), by decide +kernel⟩
  have e : c = Comp.begin (demo.inc 0) 0 := by
    have h' : some (Comp.begin (demo.inc 0) 0) = some c := h
    exact (Option.some.inj h').symm
  rw [e]; decide +kernel

/-- The tag after 5 is 6; the priority is capped at 3; the planner begins with the burst segment. -/
theorem test_open : answer (.openInc (hd .S 3) 200 255) demo = some (.accepted, [0, 6]) ∧
    ran (.openInc (hd .S 3) 200 255) demo (fun t =>
      decide ((t.inc 0).state = .planning) && decide ((t.inc 0).reqPrio = 3) && decide ((t.inc 0).link = some .S) &&
        decide (t.planner.comp.map (fun c => (c.slot, c.tag, c.zone)) = some (0, 6, [200]))) = true := by decide +kernel
theorem test_open_refused : answer (.openInc (hd .S 3) 205 1) disused = some (.disused, []) ∧
    answer (.openInc (hd .S 3) 200 1) (heldIn .closing .moving) = some (.inZone, []) ∧
    answer (.openInc (hd .S 3) 200 1) tableFull = some (.tableFull, []) := by decide +kernel

/-- An incident that awaits concurrence with its first plan, and with one of a replan. -/
def awaiting : State := (incIn .awaitingConcurrence .waiting).modInc 0 fun x => { x with concRequired := true }
def awaitingReplan : State := awaiting.modInc 0 fun x => { x with
  plan := x.plan.map fun p => { p with kind := .replan }
  current := some 1 }

theorem test_witness_ConcurEntersClosing :
    (awaiting.readyToName (.concur (hd .B 3) (0 : Fin 16).val 5) (hd .B 3) 0 5 ∧
      (awaiting.inc 0).state = .awaitingConcurrence ∧ (awaiting.inc 0).link ≠ some .B ∧
      (awaiting.inc 0).firstPlan = true) ∧
    (awaitingReplan.readyToName (.concur (hd .B 3) (0 : Fin 16).val 5) (hd .B 3) 0 5 ∧
      (awaitingReplan.inc 0).firstPlan = false) ∧
    awaiting.readyToName (.concur (hd .A 3) (0 : Fin 16).val 5) (hd .A 3) 0 5 ∧
    ((incIn .closing .waiting).readyToName (.concur (hd .B 3) (0 : Fin 16).val 5) (hd .B 3) 0 5 ∧
      ((incIn .closing .waiting).inc 0).state ≠ .awaitingConcurrence) :=
  ⟨⟨named_of (by decide +kernel), by decide +kernel, by decide +kernel, by decide +kernel⟩,
    ⟨named_of (by decide +kernel), by decide +kernel⟩, named_of (by decide +kernel), named_of (by decide +kernel),
    by decide +kernel⟩

/-- Both steps are granted slots of line 0 and run to a quarter of their turns (R139, R159, R166). -/
def shut : State :=
  ((heldIn .confirmed .closed).modVol 300 fun x => { x with accepted := some 0, reported := some 0, openRun := 0, closedRun := 2 }).modVol
    301 fun x => { x with accepted := some 0, reported := some 0, openRun := 0, closedRun := 2 }

/-- V300's step ended in wave 1 and V301's in wave 2, wave 1 current. -/
def waves (x : IncState) (st : StepState) : State :=
  (heldIn x st).modInc 0 fun y =>
    { y with plan := some (planOf [stepOf 300 st 1, stepOf 301 st 2]), current := some 1, staged := some 2, lastWave := 2 }

/-- V300 and V301 are being opened for a restore that has settled, with a further wave staged. -/
def restoringNow : State := ((shut.beginRestore 0).settle).modInc 0 fun x => { x with staged := some 2 }

/-- Nothing is due while V300's closing is being stopped, with a further wave staged. -/
def closingNow : State := waitsForSlot.modInc 0 fun x => { x with staged := some 2 }

theorem test_witness_WavesAdvance :
    (waves .closing .closed).advance?.isSome = true ∧ (waves .restoring .reopened).advance?.isSome = true ∧
    ((waves .restoring .reopened).inc 0).tag = some 5 ∧
    (∀ s ∈ [closingNow, restoringNow], s.due? = none ∧ (s.inc 0).current = some 1 ∧ (s.inc 0).staged = some 2) ∧
    (closingNow.inc 0).state = .closing ∧ (restoringNow.inc 0).state = .restoring := by decide +kernel

/-- A wave whose steps have ended gives way to the staged one, whose steps a restore takes up (R152, R158). -/
theorem test_advance : ((waves .closing .closed).advance?.map fun t => ((t.inc 0).current, (t.inc 0).staged)) = some (some 2, none) ∧
    ((waves .restoring .reopened).advance?.map fun t => (t.holds 300, t.holds 301,
      (t.valve? 301).map (·.vol.waiting), ((t.inc 0).stepFor 301).map (·.state))) =
      some ([0], [], some [.restore 0 5], some .waiting) := by decide +kernel

theorem test_concur : ran (.concur (hd .B 3) 0 5) awaiting (fun t =>
      decide ((t.inc 0).state = .closing) && decide ((t.inc 0).concGiven = some .B) &&
        decide (t.holds 300 = [0]) && decide (t.motion 300 = .closeRun) && decide (t.motion 301 = .closeRun)) = true ∧
    answer (.concur (hd .A 3) 0 5) awaiting = some (.sameLink, []) := by decide +kernel

theorem test_witness_WithdrawAndAbandonFreeTheSlot :
    awaiting.readyToName (.withdraw (hd .A 3) (0 : Fin 16).val 5) (hd .A 3) 0 5 ∧
    (awaiting.readyToName (.withdraw (hd .S 3) (0 : Fin 16).val 5) (hd .S 3) 0 5 ∧ (awaiting.inc 0).link ≠ some .S) ∧
    (incIn .closing .waiting).readyToName (.withdraw (hd .A 3) (0 : Fin 16).val 5) (hd .A 3) 0 5 ∧
    ((heldIn .restoring .moving).readyToName (.abandon (hd .S 3) (0 : Fin 16).val 5) (hd .S 3) 0 5 ∧
      ((heldIn .restoring .moving).port .A).incMask &&& IncFlag.ended.bit ≠ 0) :=
  ⟨named_of (by decide +kernel), ⟨named_of (by decide +kernel), by decide +kernel⟩, named_of (by decide +kernel),
    named_of (by decide +kernel), by decide +kernel⟩

theorem test_withdraw : ran (.withdraw (hd .A 3) 0 5) awaiting (fun t =>
      decide ((t.inc 0).state = .free) && decide ((t.inc 0).tag = some 5) &&
        decide ((t.portB.copies.get 0) = { tag := some 5, pending := 0x1000 })) = true ∧
    answer (.withdraw (hd .S 3) 0 5) awaiting = some (.notOwner, []) := by decide +kernel
theorem test_abandon : ran (.abandon (hd .S 3) 0 5) (heldIn .isolated .closed) (fun t =>
    decide ((t.inc 0).state = .free) && decide (t.holds 300 = []) && decide ((t.inc 0).plan = none)) = true := by
  decide +kernel

theorem test_witness_HoldAndResumeByTheIncidentsState :
    closing.readyToName (.hold (hd .A 3) (0 : Fin 16).val 5) (hd .A 3) 0 5 ∧
    (∀ x ∈ [IncState.restoring, .replanning, .held, .isolated],
      (heldIn x .closed).readyToName (.hold (hd .A 3) (0 : Fin 16).val 5) (hd .A 3) 0 5 ∧
      (heldIn x .closed).readyToName (.resume (hd .A 3) (0 : Fin 16).val 5) (hd .A 3) 0 5) ∧
    ((heldIn .replanning .closed).modInc 0 fun x => { x with holdPending := true }).readyToName
      (.resume (hd .A 3) (0 : Fin 16).val 5) (hd .A 3) 0 5 ∧
    (∀ e ∈ [(some HeldFrom.restoring, false, false), (some .closing, true, false), (some .closing, false, true),
        (some .closing, false, false)],
      ((heldIn .held .waiting).modInc 0 fun x =>
        { x with heldFrom := e.1, replanDue := e.2.1, concRequired := e.2.2 }).readyToName
        (.resume (hd .A 3) (0 : Fin 16).val 5) (hd .A 3) 0 5) := by
  refine ⟨named_of (by decide +kernel), fun x m => ?_, named_of (by decide +kernel), fun e m => ?_⟩
  · simp only [List.mem_cons, List.not_mem_nil, or_false] at m
    rcases m with rfl | rfl | rfl | rfl
    all_goals exact ⟨named_of (by decide +kernel), named_of (by decide +kernel)⟩
  · simp only [List.mem_cons, List.not_mem_nil, or_false] at m
    rcases m with rfl | rfl | rfl | rfl
    all_goals exact named_of (by decide +kernel)

/-- Both motions are handed a STOP, the line's queue holds one for each (R142, R173). -/
theorem test_hold : ran (.hold (hd .A 3) 0 5) closing (fun t =>
      decide ((t.inc 0).state = .held) && decide ((t.inc 0).heldFrom = some .closing) &&
        decide (t.motion 300 = .stopping) && decide ((t.line 0).queue.map (·.cmd) = [.stop, .stop]) &&
        decide ((t.motionAt 0 0).map (·.motionTimer) = some none)) = true ∧
    answer (.hold (hd .A 3) 0 5) (heldIn .isolated .closed) = some (.wrongState, []) := by decide +kernel
theorem test_resume : ran (.resume (hd .A 3) 0 5) ((heldIn .held .waiting).modInc 0 fun x =>
      { x with heldFrom := some .closing, replanDue := true }) (fun t =>
      decide ((t.inc 0).state = .replanning) && decide (t.planner.comp.isSome)) = true ∧
    answer (.resume (hd .A 3) 0 5) closing = some (.wrongState, []) := by decide +kernel

theorem test_witness_ExtendReplansAnIsolatedIncident :
    ((heldIn .leakThrough .closed).readyToName (.extend (hd .A 6) (0 : Fin 16).val 5 [300]) (hd .A 6) 0 5 ∧
      300 ∈ ((heldIn .leakThrough .closed).inc 0).stepValves) ∧
    (closing.readyToName (.extend (hd .A 6) (0 : Fin 16).val 5 [300]) (hd .A 6) 0 5) ∧
    ((heldIn .isolated .closed).readyToName (.extend (hd .A 4) (0 : Fin 16).val 5 []) (hd .A 4) 0 5) ∧
    ((heldIn .isolated .closed).readyToName (.extend (hd .A 22) (0 : Fin 16).val 5 (List.replicate 9 300)) (hd .A 22) 0 5) ∧
    ((heldIn .isolated .closed).readyToName (.extend (hd .A 6) (0 : Fin 16).val 5 [302]) (hd .A 6) 0 5 ∧
      302 ∉ ((heldIn .isolated .closed).inc 0).stepValves) ∧
    (((heldIn .isolated .closed).modInc 0 fun x => { x with excl := List.range 16 }).readyToName
      (.extend (hd .A 6) (0 : Fin 16).val 5 [300]) (hd .A 6) 0 5) :=
  ⟨⟨named_of (by decide +kernel), by decide +kernel⟩, named_of (by decide +kernel), named_of (by decide +kernel),
    named_of (by decide +kernel), ⟨named_of (by decide +kernel), by decide +kernel⟩, named_of (by decide +kernel)⟩

theorem test_extend : ran (.extend (hd .A 8) 0 5 [300, 300]) (heldIn .leakThrough .closed) (fun t =>
      decide ((t.inc 0).state = .replanning) && decide ((t.inc 0).excl = [300])) = true ∧
    answer (.extend (hd .A 6) 0 5 [302]) (heldIn .isolated .closed) = some (.badIndex, []) ∧
    answer (.extend (hd .A 6) 0 5 [300]) ((heldIn .isolated .closed).modInc 0 fun x => { x with excl := List.range 16 }) =
      some (.listFull, []) := by decide +kernel

def ended : State := (heldIn .isolated .closed).modInc 0 fun x => { x with watch := .ended }

theorem test_witness_ConfirmConfirmsTheIsolation :
    ((heldIn .leakThrough .closed).readyToName (.confirm (hd .A 3) (0 : Fin 16).val 5) (hd .A 3) 0 5) ∧
    (ended.readyToName (.confirm (hd .A 3) (0 : Fin 16).val 5) (hd .A 3) 0 5 ∧ (ended.inc 0).watch = .ended) ∧
    ((heldIn .isolated .closed).readyToName (.confirm (hd .A 3) (0 : Fin 16).val 5) (hd .A 3) 0 5) :=
  ⟨named_of (by decide +kernel), ⟨named_of (by decide +kernel), by decide +kernel⟩, named_of (by decide +kernel)⟩

theorem test_confirm : ran (.confirm (hd .A 3) 0 5) ended (fun t =>
      decide ((t.inc 0).state = .confirmed) && decide ((t.inc 0).flags = 0x0010)) = true ∧
    answer (.confirm (hd .A 3) 0 5) (heldIn .isolated .closed) = some (.wrongState, []) := by decide +kernel

/-- V300 and V301 stand closed. -/
theorem test_witness_RestoreTakesUpItsFirstWave :
    (shut.readyToName (.restore (hd .A 3) (0 : Fin 16).val 5) (hd .A 3) 0 5 ∧ (shut.inc 0).state = .confirmed) ∧
    (((heldIn .held .waiting).modInc 0 fun x => { x with heldFrom := some .closing }).readyToName
      (.restore (hd .A 3) (0 : Fin 16).val 5) (hd .A 3) 0 5) ∧
    ((tenancy5 .planFailed).readyToName (.restore (hd .A 3) (0 : Fin 16).val 5) (hd .A 3) 0 5 ∧
      ((tenancy5 .planFailed).inc 0).steps = []) ∧
    (closing.readyToName (.restore (hd .A 3) (0 : Fin 16).val 5) (hd .A 3) 0 5 ∧ (closing.inc 0).state = .closing) :=
  ⟨⟨named_of (by decide +kernel), by decide +kernel⟩, named_of (by decide +kernel),
    ⟨named_of (by decide +kernel), by decide +kernel⟩, named_of (by decide +kernel), by decide +kernel⟩

/-- A restore whose steps have ended, also while it is HELD, and one still under way in either state with nothing due. -/
theorem test_witness_RestoreEnds :
    (heldIn .restoring .retained).restoreEnd?.isSome = true ∧
    ((heldIn .held .failed).modInc 0 fun x => { x with heldFrom := some .restoring }).restoreEnd?.isSome = true ∧
    (restoringNow.due? = none ∧ (restoringNow.inc 0).state = .restoring) ∧
    let s := restoringNow.modInc 0 fun x => { x with state := .held, heldFrom := some .restoring }
    s.due? = none ∧ (s.inc 0).state = .held ∧ (s.inc 0).heldFrom = some .restoring := by decide +kernel

/-- Descending step order: V301 then V300; both are granted and crack open at the zone's allowance of 2 (chapter 11, "Restoration of
shared closures"). -/
theorem test_restore : ran (.restore (hd .A 3) 0 5) shut (fun t =>
      decide ((t.inc 0).state = .restoring) && decide (t.holds 300 = []) && decide (t.motion 300 = .openSlow) &&
        decide ((t.zone 3).holders = [301, 300])) = true ∧
    answer (.restore (hd .A 3) 0 5) closing = some (.wrongState, []) := by decide +kernel

/-- A run that is stopped and a wait that ends at once. -/
theorem test_witness_StoppingAMotionHandsAStopOrEndsIt :
    (closing.motionAt 0 0 = some (closingMotion 300) ∧ (closing.valve? (closingMotion 300).valve).isSome ∧
      closing.motion 300 = .closeRun) ∧
    ((closing.setMotion 300 .closeWait).motionAt 0 0 = some (closingMotion 300) ∧
      (closing.setMotion 300 .closeWait).motion 300 = .closeWait) ∧
    ∀ k ∈ [StopKind.hold, .restore, .abandon, .withdraw], k ≠ .guard ∧ k ≠ .reversal := by decide +kernel

/-- V300 opens for a release. -/
def opensFor (m : Motion) : Motion :=
  { m with owner := .release 1, dir := .opening, figures := some { slow := 20, runEst := 90000, slowEst := 30000, surgeRisk := false } }

/-- A guard stop and a reversal that a later stop replaces. -/
def stoppedBy (k : StopKind) : State :=
  (closing.setMotion 300 .stopping).modMotion 0 0 fun m => { m with stop := some k, reversal := some (1, 6), motionTimer := none }

/-- V300 opens for a release in a phase, held by no incident yet; the incident in slot 1 closes with its step for V300 waiting. -/
def opensNow (x : MotionState) (k : Option StopKind) (run : Nat) : State :=
  (((closing.modMotion 0 0 fun m => { opensFor m with stop := k }).modVol 300 fun y =>
    { y with motion := x, holds := [], closedRun := run }).modInc 0 fun y => { y with plan := none }).modInc 1 fun y =>
    { y with state := .closing, tag := some 6, link := some .A, burst := some 210, plan := some (planOf [stepOf 300 .waiting 1]) }

theorem test_witness_StopsReplaceOneAnother : (∀ k ∈ [StopKind.guard, .reversal, .hold],
      ((stoppedBy k).motionAt 0 0).map (·.stop) = some (some k) ∧ (stoppedBy k).motion 300 = .stopping) ∧
    (closing.inc 0).tag = some 5 ∧ (closing.line 0).state ≠ .stopped ∧ (closing.motionAt 0 1).map (·.owner) = some (.step 0 5) ∧
    (closing.setMotion 301 .closeWait).motion 301 = .closeWait ∧
    (∀ a b c d : Fin 4, ∀ m n, closing.motionAt a b = some m → closing.motionAt c d = some n → m.valve = n.valve → a = c ∧ b = d) := by
  have all : (allFour.all fun a => allFour.all fun b => allFour.all fun c => allFour.all fun d =>
      decide (a = c ∧ b = d) || decide (closing.motionAt a b = none) || decide (closing.motionAt c d = none) ||
        decide ((closing.motionAt a b).map (·.valve) ≠ (closing.motionAt c d).map (·.valve))) = true := by decide +kernel
  have mem : ∀ a : Fin 4, a ∈ allFour := by decide
  refine ⟨by decide +kernel, by decide +kernel, by decide +kernel, by decide +kernel, by decide +kernel, fun a b c d m n h1 h2 h3 => ?_⟩
  have e := List.all_eq_true.mp (List.all_eq_true.mp (List.all_eq_true.mp (List.all_eq_true.mp all a (mem a)) b (mem b)) c (mem c)) d
    (mem d)
  simpa [h1, h2, h3] using e

theorem test_witness_HoldsReverse :
    (∀ e ∈ [(MotionState.openSlow, none), (.openRun, none), (.openWait, none), (.stopping, some StopKind.guard),
        (.stopping, some .hold)], ((opensNow e.1 e.2 0).valve? 300).isSome = true ∧ 1 ∉ (opensNow e.1 e.2 0).holds 300 ∧
      ((opensNow e.1 e.2 0).moverAt 300).map (fun x => (x.1, x.2.1, x.2.2.dir)) = some (0, 0, .opening) ∧
      ((opensNow e.1 e.2 0).mover 300).map (·.stop) = some e.2 ∧
      (opensNow e.1 e.2 0).motion 300 = e.1) ∧
    ((opensNow .openWait none 2).inc 1).tag = some 6 ∧
    ((opensNow .openWait none 2).inc 1).stepFor 300 = some (stepOf 300 .waiting 1) ∧
    ((opensNow .openWait none 2).inc 1).state = .closing ∧ ((opensNow .openWait none 2).inc 1).concRequired = false ∧
    ((opensNow .openWait none 2).valve? 300).map (·.vol.closedRun) = some 2 ∧
    (closing.moverAt 300).map (·.2.2.dir) = some .closing ∧ 1 ∉ closing.holds 300 ∧ 0 ∈ closing.holds 300 ∧
    demo.moverAt 300 = none := by decide +kernel

/-- A later stop stands in place of a guard stop; HOLD stops both of its closings; a hold gained stops an opening that moves, and hands
the slot of one that waits to the incident's step, which is shut already or runs closed (R173, R176, R177). -/
theorem test_stops_and_reversals :
    ((stoppedBy .guard).stopMovers 0 .abandon).motionAt 0 0 =
      some { closingMotion 300 with stop := some .abandon, motionTimer := none } ∧
    (let t := closing.stopMovers 0 .hold
     (t.line 0).queue.map (fun e => (e.valve, e.cmd)) = [(300, .stop), (301, .stop)]) ∧
    (let t := (opensNow .openSlow none 0).joinHold 1 300
     (t.motionAt 0 0).map (fun m => (m.stop, m.reversal)) = some (some .reversal, some (1, 6)) ∧ t.motion 300 = .stopping) ∧
    (let t := (opensNow .openWait none 2).joinHold 1 300
     t.motionAt 0 0 = none ∧ ((t.inc 1).stepFor 300).map (·.state) = some .closed) ∧
    (let t := (opensNow .openWait none 0).joinHold 1 300
     (t.motionAt 0 0).map (·.owner) = some (.step 1 6) ∧ t.motion 300 = .closeRun) := by decide +kernel

/-! ## The planner -/

def burstComp : Comp := Comp.begin ((tenancy5 .planning).inc 0) 0

/-- A computation of the tenancy in slot 0 at a stage, with V300 and V301 found. -/
def compAt (x : CompStage) : Comp :=
  { burstComp with
    stage := x
    stack := []
    boundary := [⟨300, false, .normal, false, some ⟨20, 90000, 30000, false⟩⟩,
      ⟨301, false, .normal, false, some ⟨20, 72000, 24000, false⟩⟩] }

def computing (s : State) (c : Comp) : State := { s with planner := { queue := [], comp := some c } }

theorem test_witness_ComputationEndDiscardsRequeuesOrFails :
    demo.planner.comp = none ∧
    ((computing demo (compAt .ready)).planner.comp = some (compAt .ready) ∧
      (computing demo (compAt .ready)).tenancy 0 5 = false) ∧
    (let s := computing (tenancy5 .planning) { compAt .ready with again := true }
     let e := s.runOut actBound { compAt .ready with again := true }
     s.tenancy e.slot e.tag = true ∧ e.stage = .ready ∧ (∀ p ∈ e.boundary, s.recheck e.slot p ≠ none) ∧ e.again = true ∧
      e.slot ∉ s.planner.queue) ∧
    (∀ x ∈ [IncState.planning, .replanning, .held], ∀ r ∈ [FailReason.zoneLimit, .stepLimit, .exclusionsFull],
      (compAt (.failed r)).stage = .failed r ∧
        (computing (tenancy5 x) (compAt (.failed r))).tenancy (compAt (.failed r)).slot (compAt (.failed r)).tag = true) := by
  decide +kernel

/-- A computation from its first stage: S200's two valves are its boundary, both usable, and the plan is delivered (R75 to R92). -/
theorem test_computationEnd : ran .computationEnd (computing (tenancy5 .planning) burstComp) (fun t =>
    decide ((t.inc 0).state = .closing) && decide ((t.inc 0).steps.map (·.valve) = [300, 301]) &&
      decide ((t.inc 0).zoneList = [200]) && decide ((t.inc 0).steps.map (·.figures.slow) = [20, 20]) &&
      decide (t.planner.comp = none) && decide (t.motion 301 = .closeRun)) = true := by decide +kernel
theorem test_computationEnd_fails : ran .computationEnd (computing (tenancy5 .planning) (compAt (.failed .zoneLimit))) (fun t =>
    decide ((t.inc 0).state = .planFailed) && decide ((t.inc 0).flags = 0x0002)) = true := by decide +kernel

theorem test_witness_ComputationEndDeliversAFirstPlan :
    ∀ b ∈ [true, false],
      let c : Comp := { compAt .ready with concurrence := b }
      let s := computing (tenancy5 .planning) c
      s.planner.comp = some c ∧ c.stage = .ready ∧ s.tenancy c.slot c.tag = true ∧
        (∀ p ∈ c.boundary, s.recheck c.slot p ≠ none) ∧ c.again = false ∧ (s.inc c.slot).state = .planning := by
  decide +kernel

/-- PLANNING for the burst on S200, with an exclusion list, a feed list and the steps of an earlier plan. -/
def searching (excl feeds : List Nat) (steps : List Step) : State :=
  { (tenancy5 .planning).modInc 0 fun x => { x with excl := excl, plan := if steps = [] then none else some (planOf steps) } with
    feeds := feeds }

/-- The computation of slot 0 after some actions, nothing else happening. -/
def after (s : State) (n : Nat) : Comp := s.runOut n (Comp.begin (s.inc 0) 0)

/-- Each comes to its last stage: with nothing excluded, with V301 passed through, with V300 settled by an earlier plan, with V302 out
of the district passed through, and without feeds; and each has been at the feeds on its way. -/
theorem test_witness_WhatAComputationFinds :
    (searching [] [210] []).modelSound ∧
    ∀ e ∈ [([], [210], []), ([301], [210], []), ([301], [210], [stepOf 300 .closed 1]), ([301, 302], [200], []), ([], [], [])],
      let s := searching e.1 e.2.1 e.2.2
      (s.inc 0).burst = some 200 ∧ (after s 100).stage = .ready ∧ (after s 100).noFeeds = decide (e.2.1 = []) ∧
        ∃ n ∈ List.range 20, (after s n).stage = .feeds ∧ (after s n).explored = [] ∧ (after s n).spillFlag = false ∧
          (s.runOut 100 (after s n)).stage = .ready ∧ ∀ p ∈ (after s n).boundary, p.figures = none :=
  ⟨sound_of (by decide +kernel) (by decide +kernel), by decide +kernel⟩

/-- S200 alone with V300 and V301 as steps; with V301 excluded S201 joins and V302 is found behind it; with V302 excluded too the edge is
open. S210 is fed; without a valve to it, S201 is stranded (R78 to R85). -/
theorem test_search :
    ((after (searching [] [210] []) 100).zone, (after (searching [] [210] []) 100).boundary.map (·.valve),
      (after (searching [] [210] []) 100).stranded) = ([200], [300, 301], [201]) ∧
    ((after (searching [301] [210] []) 100).zone, (after (searching [301] [210] []) 100).boundary.map (·.valve),
      (after (searching [301] [210] []) 100).stranded) = ([200, 201], [300, 302], []) ∧
    ((after (searching [301, 302] [210] []) 100).edgeCount, (after (searching [301, 302] [210] []) 100).edgeValves) = (1, [302]) := by
  decide +kernel

/-- V301 is INOPERABLE when the plan is checked again (R90), with room on the exclusion list and without. -/
theorem test_witness_FailedRecheckExcludesAndRequeues :
    ∀ n ∈ [0, 15, 16],
      let s := (computing ((tenancy5 .planning).modInc 0 fun x => { x with excl := List.range n }) (compAt .ready)).modValve 301
        fun x => { x with st := { x.st with mark := .inoperable } }
      s.planner.comp = some (compAt .ready) ∧ s.tenancy 0 5 = true ∧
        ((compAt .ready).boundary.filter fun p => (s.recheck 0 p).isNone).map (·.valve) = [301] ∧
        (n = 16 → 16 < ((s.inc 0).excl ++ (dedup [301]).filter fun v => !(s.inc 0).excl.contains v).length ∧
          (s.inc 0).excl.length ≤ 16 ∧ (s.inc 0).state = .planning) ∧
        (n < 16 → ((s.inc 0).excl ++ (dedup [301]).filter fun v => !(s.inc 0).excl.contains v).length ≤ 16) := by
  decide +kernel

/-- A replan delivered with a hold pending, with concurrence outstanding, and to close; and one that merges into 49 steps. -/
def replanning (hold : Bool) : State :=
  (heldIn .replanning .closed).modInc 0 fun x => { x with holdPending := hold }
def manySteps : State :=
  (tenancy5 .replanning).modInc 0 fun x => { x with
    plan := some (planOf ((List.range 47).map fun n => stepOf (500 + n) .closed 1))
    lastWave := 1 }

theorem test_witness_ComputationEndMergesAReplan :
    ∀ e ∈ [(true, false), (false, true), (false, false)],
      let c : Comp := { compAt .ready with kind := .replan, concurrence := e.2 }
      (∀ s ∈ [computing (replanning e.1) c, computing manySteps c],
        s.planner.comp = some c ∧ s.tenancy c.slot c.tag = true ∧ (∀ p ∈ c.boundary, s.recheck c.slot p ≠ none) ∧
          c.again = false ∧ (s.inc c.slot).state = .replanning) ∧
      48 < (manySteps.inc 0).steps.length + c.boundary.length := by decide +kernel

/-- A plan in progress, V300 MOVING, and steps that the new plan lacks: one FAILED, one CLOSED and one WAITING. -/
def mixed (x : StepState) (now : Option Nat) : State :=
  (heldIn .replanning .closed).modInc 0 fun y => { y with
    current := now
    plan := some (planOf [stepOf 300 x 1, stepOf 500 .failed 1, stepOf 501 .closed 1, stepOf 502 .waiting 2]) }

def replanComp : Comp := { compAt .ready with kind := .replan }

/-- The table of R146 over each of its cases, no valve opening: with the current wave in progress, with it done and with none. -/
theorem test_witness_MergeTable :
    ∀ e ∈ [(StepState.moving, some 1), (.closed, some 1), (.closed, none)],
      let s := computing (mixed e.1 e.2) replanComp
      s.planner.comp = some replanComp ∧ s.tenancy 0 5 = true ∧ (∀ p ∈ replanComp.boundary, s.recheck 0 p ≠ none) ∧
        (s.inc 0).state = .replanning ∧ (s.inc 0).steps.map (·.valve) = [300, 500, 501, 502] ∧
        replanComp.boundary.map (·.valve) = [300, 301] ∧ ∀ v ∈ [300, 501, 301], s.mover v = none := by decide +kernel

def got (s : State) (steps : List (Nat × Role × Nat)) (waves : Option Nat × Option Nat) : Bool :=
  ran .computationEnd (computing s replanComp) fun t =>
    decide (((t.inc 0).steps.map fun y => (y.valve, y.role, y.wave)) = steps) &&
      decide (((t.inc 0).current, (t.inc 0).staged) = waves)

/-- FAILED and the WAITING step out of the plan go, CLOSED stays as INTERIOR, the new valve's step joins and is regrouped from the
wave after the current one, which goes on only while it has a step that moves (R146, R147). -/
theorem test_merge :
    got (mixed .moving (some 1)) [(300, .boundary, 1), (501, .interior, 1), (301, .boundary, 2)] (some 1, some 2) = true ∧
    got (mixed .closed (some 1)) [(300, .boundary, 1), (501, .interior, 1), (301, .boundary, 2)] (some 2, none) = true ∧
    got (mixed .closed none) [(300, .boundary, 1), (501, .interior, 1), (301, .boundary, 1)] (some 1, none) = true := by
  decide +kernel

/-- The merge adds V301, which a release commands open and which waits for its allowance; V301 as it is, or shut. -/
def foundAll : Comp := { replanComp with examined := [300, 301] }
def reversing (run : Nat) : State :=
  computing (((mixed .closed (some 1)).modVol 301 fun y =>
    { y with holds := [], motion := .openWait, accepted := some 7, closedRun := run }).setSlot 0 1
    (some { opensFor (closingMotion 301) with owner := .release 1 })) foundAll

theorem test_witness_MergeReverses : ∀ run ∈ [0, 2],
    (reversing run).incidentsSound ∧ (reversing run).planner.comp = some foundAll ∧ (reversing run).tenancy 0 5 = true ∧
    (∀ p ∈ foundAll.boundary, (reversing run).recheck 0 p ≠ none) ∧ ((reversing run).inc 0).state = .replanning ∧
    (∀ v ∈ ((reversing run).inc 0).stepValves, (reversing run).valve? v ≠ none → 0 ∈ (reversing run).holds v) ∧
    (allFour.all fun l => allFour.all fun j => decide (((reversing run).motionAt l j).map (·.owner) ≠ some (.step 0 5))) = true ∧
    ((reversing run).mover 301).map (·.dir) = some .opening ∧ (reversing run).motion 301 = .openWait := by
  intro run h
  refine ⟨State.incidentsSound_with ?_ fun c e => ?_, ?_⟩
  · revert run; decide +kernel
  · have : c = foundAll := (Option.some.inj (e.symm.trans (by rfl)))
    subst this
    unfold Comp.sound; decide +kernel
  · revert run; decide +kernel

/-- The reversal comes before the waves: V301's step is MOVING, or CLOSED where the valve is shut, in no wave (R147, R176, R177). -/
theorem test_merge_reverses : ∀ e ∈ [(0, StepState.moving), (2, .closed)],
    ran .computationEnd (reversing e.1) (fun t =>
      decide (((t.inc 0).steps.map fun y => (y.valve, y.state, y.wave)) = [(300, .closed, 1), (501, .closed, 1), (301, e.2, 0)]) &&
        decide ((t.inc 0).current = none) && decide ((t.inc 0).staged = none)) = true := by decide +kernel

/-- A WAITING step that a merge drops leaves its guard's stopped list with its hold (R146, R178). -/
theorem test_merge_leaves_list :
    let s := (mixed .moving (some 1)).modInc 0 fun y => { y with
      plan := some (planOf [stepOf 300 .moving 1, stepOf 302 .waiting 2]) }
    let s := (s.modVol 302 fun y => { y with holds := [0] }).modZone 3 fun z =>
      { z with guard := .guarded, tripping := some 20, stopped := [⟨302, .step 0 5⟩] }
    ran .computationEnd (computing s replanComp) (fun t => decide (t.holds 302 = []) && decide ((t.zone 3).stopped = [])) =
      true := by decide +kernel

/-! ## Valve lines -/

/-- A QUERY, MOVE or STOP of V300's node, or a SAMPLE of P020's, in flight. -/
theorem test_witness_RepliesThatAnswerNothingAreDiscarded :
    (∀ t, (demo.line 0).txn = some t → t.addr ≠ 10 ∨ t.kind ≠ .query ∨ t.gone = true) ∧
    (∃ e, (inFlight 0 10 .query true demo).valveAt 0 10 = some e ∧ e.2.st.turns < 41) ∧
    ((0x03 : Byte).getLsbD 0 = true ∧ (0x03 : Byte).getLsbD 1 = true) ∧ 2 < 3 ∧ 1 ≠ 0 ∧ 2500 < 2501 ∧ 1 < 2 := by
  refine ⟨fun t h => ?_, ⟨(300, ⟨vst 200 (some 210) 0 10 40, opened 40⟩), by decide +kernel, by decide⟩, by decide⟩
  have n : (demo.line 0).txn = none := by decide +kernel
  rw [n] at h; cases h

theorem test_discards : ran (.report 0 10 41 0) (inFlight 0 10 .query true demo)
      (fun t => decide (t = inFlight 0 10 .query true demo)) = true ∧
    ran (.stopReply 0 10 0) (inFlight 0 10 .query true demo)
      (fun t => decide (t = inFlight 0 10 .query true demo)) = true := by decide +kernel

/-- Every status byte that is not both limits, at the first and the last position. -/
theorem test_witness_ReportIsTakenIntoTheChain :
    let s := inFlight 0 10 .query true demo
    s.device = .running ∧ s.valveAt 0 10 = some (300, ⟨vst 200 (some 210) 0 10 40, opened 40⟩) ∧
      s.valve? 300 = some ⟨vst 200 (some 210) 0 10 40, opened 40⟩ ∧
      (s.line 0).txn = some { addr := 10, kind := .query, visit := true, gone := false } ∧
      (s.line 0).node? 10 = some fresh0 ∧ 40 ≤ (vst 200 (some 210) 0 10 40).turns ∧
      ((0x1E : Byte).getLsbD 0 = false ∨ (0x1E : Byte).getLsbD 1 = false) := by decide +kernel

/-- V300 in a phase, its motion and its volatile record as given, its QUERY in flight. -/
def reporting (x : MotionState) (f : Motion → Motion) (g : ValveVol → ValveVol) : State :=
  inFlight 0 10 .query true ((closing.modMotion 0 0 f).modVol 300 fun y => g { y with motion := x })

def stopsFor (k : StopKind) (x : MotionState) (f : Motion → Motion) : State :=
  reporting x (fun m => f { m with stop := some k, motionTimer := none }) fun y => { y with awaitRest := true }

/-- A reversal for the incident in slot 0, whose step waits, with the tenancy recorded for it. -/
def reverses (tag : Nat) : State :=
  (stopsFor .reversal .stopping fun m => { opensFor m with reversal := some (0, tag) }).modInc 0 fun x =>
    { x with plan := some (planOf [stepOf 300 .waiting 1, stepOf 301 .moving 1]) }

/-- What every clause about the motion takes: RUNNING, the QUERY of V300's node, and V300's one motion in slot 0 of line 0. -/
def oneMover (s : State) : Bool :=
  decide (s.device = .running) && decide ((s.valveAt 0 10).map (·.1) = some 300) &&
    decide ((s.valveAt 0 10).map (·.2) = s.valve? 300) &&
    decide ((s.line 0).txn = some { addr := 10, kind := .query, visit := true, gone := false }) &&
    decide (s.moverAt 300 = (s.motionAt 0 0).map fun m => (0, 0, m)) && (s.motionAt 0 0).isSome &&
    allFour.all fun j => decide (j = 0) || decide ((s.motionAt 0 j).map (·.valve) ≠ some 300)

/-- V300's runs, target, awaited rest and motion state. -/
def runsOf (s : State) (runs : List Nat) (target : Option Nat) (rest : Bool) (m : MotionState) : Bool :=
  match s.valve? 300 with
  | none => false
  | some x => decide ([x.vol.closedRun, x.vol.openRun, x.vol.targetRun] = runs) && decide (x.vol.target = target) &&
      decide (x.vol.awaitRest = rest) && decide (x.vol.motion = m)

def rises (s : State) : State := s.modVol 300 fun y => { y with closedRun := 1 }

/-- One state for each clause: reached closed in a phase and while it is stopped, reached open, reached target from both, rest after
each kind of stop, a reversal that is inherited and one whose tenancy has gone, and a report that brings nothing. -/
theorem test_witness_ReportEvents_mover :
    ([rises (reporting .closeSlow id id), rises (reporting .closeSlow (fun m => { m with owner := .release 1 }) id),
        rises (stopsFor .hold .stopping id),
        reporting .openRun opensFor fun y => { y with openRun := 1 },
        reporting .closeRun id (fun y => { y with targetRun := 1, target := some 10 }),
        reporting .openSlow opensFor (fun y => { y with targetRun := 1, target := some 10 }),
        stopsFor .guard .stopping id, stopsFor .hold .stopping id, stopsFor .restore .stopping id,
        stopsFor .abandon .stopping id, stopsFor .withdraw .stopping id, reverses 5, reverses 4,
        reporting .closeRun id id].all oneMover) = true := by decide +kernel

theorem test_witness_ReportEvents :
    runsOf (rises (reporting .closeSlow id id)) [1, 2, 0] none false .closeSlow = true ∧
    runsOf (rises (reporting .closeSlow (fun m => { m with owner := .release 1 }) id)) [1, 2, 0] none false .closeSlow = true ∧
    runsOf (rises (stopsFor .hold .stopping id)) [1, 2, 0] none true .stopping = true ∧
    runsOf (reporting .openRun opensFor (fun y => { y with openRun := 1 })) [0, 1, 0] none false .openRun = true ∧
    runsOf (reporting .closeRun id (fun y => { y with targetRun := 1, target := some 10 })) [0, 2, 1] (some 10) false
      .closeRun = true ∧
    runsOf (reporting .openSlow opensFor (fun y => { y with targetRun := 1, target := some 10 })) [0, 2, 1] (some 10) false
      .openSlow = true ∧ runsOf (reverses 5) [0, 2, 0] none true .stopping = true ∧
    (∀ k ∈ [StopKind.guard, .hold, .restore, .abandon, .withdraw],
      runsOf (stopsFor k .stopping id) [0, 2, 0] none true .stopping = true ∧
        ((stopsFor k .stopping id).motionAt 0 0).map (·.stop) = some (some k)) ∧
    (0x01 : Byte).getLsbD 0 = true ∧ (0x01 : Byte).getLsbD 1 = false ∧ (0x01 : Byte).getLsbD 4 = false ∧
    (0x02 : Byte).getLsbD 1 = true ∧ (0x08 : Byte).getLsbD 3 = true ∧ (0x04 : Byte).getLsbD 2 = true := by
  decide +kernel

theorem test_witness_ReportEvents_reversal :
    (reverses 5).tenancy 0 5 = true ∧ (reverses 5).tenancy 0 4 = false ∧ 0 ∈ (reverses 5).holds 300 ∧
      ((reverses 5).inc 0).state = .closing ∧ ((reverses 5).inc 0).concRequired = false ∧
      ((reverses 5).inc 0).stepFor 300 = some (stepOf 300 .waiting 1) ∧
      ((reverses 5).motionAt 0 0).map (fun m => (m.owner, m.stop, m.reversal)) =
        some (.release 1, some .reversal, some (0, 5)) := by decide +kernel

/-- Reached closed ends a closing, also one being stopped; reached open an opening; reached target takes a run phase to its wait and
the allowance it asks for, and a crack phase to the run (R33, R166, R167, R174). -/
theorem test_report_reached :
    ran (.report 0 10 0 0x01) (rises (reporting .closeSlow id id)) (fun t => decide (t.motionAt 0 0 = none) &&
      decide (t.motion 300 = .atRest) && decide (((t.inc 0).stepFor 300).map (·.state) = some .closed)) = true ∧
    ran (.report 0 10 0 0x01) (rises (stopsFor .hold .stopping id)) (fun t =>
      decide (((t.inc 0).stepFor 300).map (·.state) = some .closed)) = true ∧
    ran (.report 0 10 40 0x02) (reporting .openRun opensFor fun y => { y with openRun := 1 }) (fun t =>
      decide (t.motionAt 0 0 = none) && decide (t.motion 300 = .atRest)) = true ∧
    ran (.report 0 10 10 0x00) (reporting .closeRun id (fun y => { y with targetRun := 1, target := some 10 })) (fun t =>
      decide (t.motion 300 = .closeSlow) && decide ((t.zone 3).holders = [300])) = true ∧
    ran (.report 0 10 10 0x00) (reporting .openSlow opensFor (fun y => { y with targetRun := 1, target := some 10 })) (fun t =>
      decide (t.motion 300 = .openRun) && decide ((t.zone 3).holders = [])) = true := by decide +kernel

/-- A guard stop keeps its slot, one by HOLD gives it up and its step waits again, and a reversal hands the slot to the step of the
tenancy it was for, and to none of a later tenancy (R173, R177, R179). -/
theorem test_report_rest :
    ran (.report 0 10 20 0x00) (stopsFor .guard .stopping id) (fun t =>
      decide ((t.motionAt 0 0).map (·.stop) = some none) && decide (t.motion 300 = .closeSlow)) = true ∧
    ran (.report 0 10 20 0x00) ((stopsFor .hold .stopping id).modInc 0 fun x => { x with state := .held }) (fun t =>
      decide (t.motionAt 0 0 = none) && decide (((t.inc 0).stepFor 300).map (·.state) = some .waiting)) = true ∧
    ran (.report 0 10 20 0x00) (reverses 5) (fun t =>
      decide ((t.motionAt 0 0).map (fun m => (m.owner, m.dir)) = some (.step 0 5, .closing)) &&
        decide (t.motion 300 = .closeRun)) = true ∧
    ran (.report 0 10 20 0x00) ((reverses 4).modInc 0 fun x => { x with current := none }) (fun t =>
      decide (t.motionAt 0 0 = none) && decide (t.motion 300 = .atRest)) = true := by decide +kernel

/-- V300 stands closed and held without a mover, its incident in a state, its last report at position 3. -/
def drifting (x : IncState) (excl : List Nat) : State :=
  inFlight 0 10 .query true (((heldIn x .closed).modVol 300 fun y =>
    { y with accepted := some 0, lastReport := some ⟨3, 0⟩, agreement := 1 }).modInc 0 fun y =>
    { y with heldFrom := some .closing, excl := excl })

theorem test_witness_DriftsReplan :
    ∀ x ∈ [IncState.closing, .replanning, .held, .isolated, .confirmed, .leakThrough, .awaitingConcurrence],
      ∀ e ∈ [[], List.range 15, List.range 16, 300 :: List.range 15],
        let s := drifting x e
        s.device = .running ∧ (s.valveAt 0 10).map (·.1) = some 300 ∧ (s.valveAt 0 10).map (·.2) = s.valve? 300 ∧
          s.moverAt 300 = none ∧ 0 ∈ s.holds 300 ∧ (s.inc 0).stepFor 300 = some (stepOf 300 .closed 1) ∧
          (s.inc 0).state = x ∧ (s.inc 0).excl = e ∧
          (s.valve? 300).map (fun y => (y.vol.accepted, y.vol.agreement, y.vol.lastReport.map (·.position))) =
            some (some 0, 1, some 3) := by decide +kernel

/-- Drift takes the CLOSED step to FAILED and replans; with a full list it is PLAN_FAILED; another position than the last, or a first
plan that awaits concurrence, is no drift (R51, R143, R144). -/
theorem test_drift : ran (.report 0 10 3 0) (drifting .isolated []) (fun t => decide ((t.inc 0).state = .replanning) &&
      decide ((t.inc 0).excl = [300]) && decide (((t.inc 0).stepFor 300).map (·.state) = some .failed)) = true ∧
    ran (.report 0 10 3 0) (drifting .held []) (fun t => decide ((t.inc 0).state = .held) && (t.inc 0).replanDue) = true ∧
    ran (.report 0 10 3 0) (drifting .confirmed (List.range 16)) (fun t => decide ((t.inc 0).state = .planFailed)) = true ∧
    ran (.report 0 10 2 0) (drifting .isolated []) (fun t => decide ((t.inc 0).state = .isolated)) = true ∧
    ran (.report 0 10 3 0) (drifting .awaitingConcurrence []) (fun t => decide ((t.inc 0).excl = [])) = true := by decide +kernel

/-- A release toward CLOSED that the limit switch completes at the first report of position 0 leaves V300 AT_NORMAL, though its
accepted position is still 3 (R168). -/
theorem test_release_shut_by_limit : ran (.report 0 10 0 0x01)
    (((reporting .closeSlow (fun m => { m with owner := .release 1, dir := .closing }) fun y =>
      { y with holds := [], accepted := some 3, closedRun := 1 }).modValve 300 fun y =>
      { y with st := { y.st with normal := .closed } }).modInc 0 fun x => { x with plan := none }) (fun t =>
    decide (t.motionAt 0 0 = none) && decide (t.orphanCount = 0) &&
      decide ((t.valve? 300).map (fun x => (x.vol.accepted, t.dispositionOf 300 x)) = some (some 3, .atNormal))) = true := by
  decide +kernel

/-- V301, released to its normal position and not yet accepted there, is an orphan once two reports agree on 7 (R58, R59). -/
theorem test_released_then_moved : ran (.report 0 11 7 0x00)
    (inFlight 0 11 .query true (orphan301.modVol 301 fun x =>
      { x with released := true, lastReport := some ⟨7, 0⟩, agreement := 1 })) (fun t => decide (t.orphanCount = 1)) = true ∧
    ran (.report 0 11 6 0x00)
      (inFlight 0 11 .query true (orphan301.modVol 301 fun x =>
        { x with released := true, lastReport := some ⟨7, 0⟩, agreement := 1 })) (fun t => decide (t.orphanCount = 0)) =
      true := by decide +kernel

/-- A report of another position starts a new run; one that agrees makes the position accepted (R32, R33). -/
theorem test_report : ran (.report 0 10 39 0x10) (inFlight 0 10 .query true demo) (fun t =>
      decide ((t.valve? 300).map (fun x => (x.vol.reported, x.vol.agreement, x.vol.accepted, x.vol.openRun)) =
        some (some 39, 1, some 40, 0)) && decide (((t.line 0).node? 10) = some ⟨0, some 1⟩)) = true ∧
    ran (.report 0 10 39 0x00) ((inFlight 0 10 .query true demo).modVol 300 fun x =>
        { x with lastReport := some ⟨39, 0x10⟩, agreement := 1, status := .stale }) (fun t =>
      decide ((t.valve? 300).map (fun x => (x.vol.agreement, x.vol.accepted, x.vol.status)) = some (2, some 39, .fresh))) =
      true := by decide +kernel
/-- A torque trip makes the valve STUCK; the LOCAL bit takes it to LOCAL (R39, R40). -/
theorem test_report_faults : ran (.report 0 10 40 0x0A) (inFlight 0 10 .query true demo)
      (fun t => decide (t.motion 300 = .stuck)) = true ∧
    ran (.report 0 10 40 0x06) (inFlight 0 10 .query true demo) (fun t => decide (t.motion 300 = .localMode)) = true := by
  decide +kernel

/-- V300's MOVE or STOP at the head of line 0's queue, its transaction in flight. -/
def headOf (c : Cmd) (k : TxnKind) (s : State) : State :=
  (inFlight 0 10 k false s).modLine 0 fun x => { x with queue := [{ valve := 300, cmd := c, next := none }] }
def moveHead : State :=
  (headOf (.move 10 20 .closing 145000) .move closing).modMotion 0 0 fun m => { m with motionTimer := none }
def stopHead : State := (headOf .stop .stop closing).setMotion 300 .stopping

theorem test_witness_CommandRepliesGiveTheOutcomeOfTheHead :
    ((moveHead.line 0).txn = some { addr := 10, kind := .move, visit := false, gone := false } ∧
      (moveHead.line 0).queue = { valve := 300, cmd := .move 10 20 .closing 145000, next := none } :: [] ∧
      (moveHead.line 0).kept = [] ∧ (moveHead.valve? 300).isSome ∧ moveHead.motion 300 = .closeRun ∧
      (moveHead.moverAt 300).isSome) ∧
    ((stopHead.line 0).txn = some { addr := 10, kind := .stop, visit := false, gone := false } ∧
      (stopHead.line 0).queue = { valve := 300, cmd := .stop, next := none } :: [] ∧ (stopHead.line 0).kept = [] ∧
      stopHead.motion 300 = .stopping ∧ (stopHead.moverAt 300).isSome) := by decide +kernel

/-- An ACK starts the timer at 145,000 ms; a REFUSE_LOCAL fails the step and the valve is LOCAL (R163, R170). -/
theorem test_moveReply : ran (.moveReply 0 10 0) moveHead (fun t =>
      decide ((t.motionAt 0 0).map (·.motionTimer) = some (some 145000)) && decide ((t.valve? 300).map (·.vol.target) = some (some 10)) &&
        decide ((t.line 0).queue = [])) = true ∧
    ran (.moveReply 0 10 1) moveHead (fun t =>
      decide (t.motion 300 = .localMode) && decide (((t.inc 0).stepFor 300).map (·.cause) = some (some .refusedLocal))) = true := by
  decide +kernel
theorem test_stopReply : ran (.stopReply 0 10 0) stopHead (fun t =>
    decide ((t.motionAt 0 0).map (·.stopTimer) = some (some 20000)) && decide ((t.valve? 300).map (·.vol.awaitRest) = some true)) =
    true := by decide +kernel

/-- P020's SAMPLE in flight: with the guard CLEAR and V300 in its slow phase, and with the guard tripped by it. -/
def sampling : State := inFlight 3 200 .sample true
  ((heldIn .closing .moving).modLine 0 fun x => { x with slots := #v[some (closingMotion 300), none, none, none] })
def sampleSlow : State := sampling.setMotion 300 .closeSlow
def sampleGuarded (n : Nat) : State :=
  sampleSlow.modZone 3 fun z => { z with guard := .guarded, tripping := some 20, clearCount := n }

theorem test_witness_SampleReplyIsStoredAndOfferedToTheGuard :
    (∀ s ∈ [sampling, sampleSlow, sampleGuarded 0, sampleGuarded 2], s.device = .running ∧
      s.pointAt 3 200 = some (20, Point.start point20) ∧ s.point? 20 = some (Point.start point20) ∧
      (s.line 3).txn = some { addr := 200, kind := .sample, visit := true, gone := false } ∧
      (s.segOf point20.seg).zone = 3 ∧ (s.segOf point20.seg).rating = 1600) ∧
    2500 ≤ 2500 ∧ sampling.slowMotions 3 = [] ∧ sampleSlow.slowMotions 3 ≠ [] ∧ (sampleSlow.zone 3).guard = .clear ∧
    1600 < 1601 ∧ 1600 ≤ 1600 ∧ 1600 * 9 / 10 < 1441 ∧ ¬ 1600 * 9 / 10 < 1440 ∧
    ((sampleGuarded 2).zone 3).tripping = some 20 ∧ ¬ ((sampleGuarded 2).zone 3).clearCount < 2 ∧
    (let s := (sampleGuarded 2).modZone 3 fun z => { z with tripping := some 21 }
     (s.zone 3).guard = .guarded ∧ (s.zone 3).tripping ≠ some 20) := by decide +kernel

/-- V300's step and V301's release stand stopped in their wait states, the guard at its third sample; and a watch that runs. -/
def clears : State :=
  ((((sampleGuarded 2).modLine 0 fun x => { x with
        slots := #v[some (closingMotion 300), some { opensFor (closingMotion 301) with motionTimer := none }, none, none] }).setMotion 300
      .closeWait).setMotion 301 .openWait).modZone 3 fun z =>
    { z with stopped := [⟨300, .step 0 5⟩, ⟨301, .release 1⟩] }
def watched : State := inFlight 3 200 .sample true ((heldIn .isolated .closed).modInc 0 fun x => { x with watch := .running 900000 })

theorem test_witness_GuardAndWatch :
    (sampleSlow.motionAt 0 0 = some (closingMotion 300) ∧ sampleSlow.zoneOf 300 = 3 ∧ sampleSlow.motion 300 = .closeSlow ∧
      (sampleSlow.line 0).state ≠ .stopped ∧ sampleSlow.tenancy 0 5 = true ∧
      ∀ l j : Fin 4, (l, j) ≠ (0, 0) → sampleSlow.motionAt l j = none) ∧
    ((clears.zone 3).stopped.Nodup ∧ (clears.zone 3).guard = .guarded ∧ (clears.zone 3).tripping = some 20 ∧
      ¬ (clears.zone 3).clearCount < 2 ∧ (clears.inc 0).stepFor 300 = some (stepOf 300 .moving 1) ∧
      clears.motion 300 = .closeWait ∧ (clears.mover 300).map (·.owner) = some (.step 0 5) ∧ clears.motion 301 = .openWait ∧
      ((clears.moverAt 301).map fun e => (e.1, e.2.1, e.2.2.owner, e.2.2.figures.map (·.slow))) =
        some (0, 1, .release 1, some 20)) ∧
    ((watched.inc 0).watch ≠ .idle ∧ (watched.inc 0).watch ≠ .ended ∧ (watched.inc 0).state = .isolated ∧
      point20.seg ∈ (watched.inc 0).zoneList ∧
      let a := watched.modPoint 20 fun p => { p with ring := p.ring ++ [{ pressure := 50, round := 1 }], fresh := true, bad := 0 }
      ∀ o ∈ a.freshPoints 0, a.readsDrained o = true) := by decide +kernel

/-- A trip hands V300 a STOP and lists it; a clearing halves both slow speeds from 20 to 10, and both are granted anew; a drained
point confirms (R108, R140, R179, R180). -/
theorem test_guard : ran (.sampleReply 3 200 1601 0) sampleSlow (fun t =>
      decide ((t.zone 3).stopped = [⟨300, .step 0 5⟩]) && decide ((t.line 0).queue.map (fun e => (e.valve, e.cmd)) = [(300, .stop)]) &&
        decide ((t.motionAt 0 0).map (fun m => (m.stop, m.motionTimer)) = some (some .guard, none)) &&
        decide ((t.inc 0).flags = IncFlag.surgeEvent.bit)) = true ∧
    ran (.sampleReply 3 200 1440 0) clears (fun t => decide ((t.zone 3).stopped = []) &&
      decide (((t.inc 0).stepFor 300).map (·.figures.slow) = some 10) &&
        decide ((t.motionAt 0 1).map (·.figures.map (·.slow)) = some (some 10)) &&
        decide ((t.zone 3).holders.length = 2)) = true ∧
    ran (.sampleReply 3 200 50 0) watched (fun t =>
      decide ((t.inc 0).state = .confirmed) && decide ((t.inc 0).watch = .ended)) = true := by decide +kernel

/-- Above the rating the guard trips, at it it does not; three samples within nine tenths clear it (R178, R179, R180). -/
theorem test_sampleReply : ran (.sampleReply 3 200 1601 0) sampleSlow (fun t =>
      decide ((t.zone 3).guard = .guarded) && decide ((t.zone 3).tripping = some 20) && decide (t.motion 300 = .stopping)) = true ∧
    ran (.sampleReply 3 200 1600 0) sampleSlow (fun t => decide ((t.zone 3).guard = .clear) &&
      decide ((t.point? 20).map (fun p => (p.ring, p.fresh)) = some ([⟨1600, 1⟩], true))) = true ∧
    ran (.sampleReply 3 200 1440 0) (sampleGuarded 2) (fun t => decide ((t.zone 3).guard = .clear)) = true := by decide +kernel
theorem test_sampleReply_bad : ran (.sampleReply 3 200 1601 1) sampleSlow (fun t =>
    decide ((t.zone 3).guard = .clear) && decide ((t.point? 20).map (·.bad) = some 1)) = true := by decide +kernel

def missing (n : Nat) (gone : Bool) : State :=
  closing.modLine 0 fun x => { x with
    nodes := [(10, { misses := n, lastValid := some 1 }), (11, fresh0)]
    txn := some { addr := 10, kind := .query, visit := true, gone := gone } }

theorem test_witness_MissIsCountedAndTheThirdMakesUnresponsive :
    (demo.line 0).txn = none ∧
    (∀ n ∈ [0, 1, 2, 255], ((missing n false).line 0).txn = some { addr := 10, kind := .query, visit := true, gone := false } ∧
      (missing n false).device = .running ∧
      ((missing n false).line 0).node? 10 = some { misses := n, lastValid := some 1 } ∧
      ((missing n false).valveAt 0 10).map (·.1) = some 300 ∧ (missing n false).motion 300 = .closeRun ∧
      ((missing n false).moverAt 300).isSome) ∧
    ((missing 2 true).line 0).txn = some { addr := 10, kind := .query, visit := true, gone := true } := by decide +kernel

/-- The third miss in a row (R36, R38, R171): the valve is UNRESPONSIVE, its step FAILED, V301's closing is not touched. -/
theorem test_miss : ran (.miss 0) (missing 1 false) (fun t =>
      decide (t.motion 300 = .closeRun) && decide (((t.line 0).node? 10).map (·.misses) = some 2)) = true ∧
    ran (.miss 0) (missing 2 false) (fun t => decide (t.motion 300 = .unresponsive) && decide (t.motionAt 0 0 = none) &&
      decide (t.motion 301 = .closeRun) && decide ((t.valve? 300).map (·.vol.status) = some .stale)) = true := by decide +kernel

/-- V300 STUCK with a STOP queued, its QUERY or that STOP in flight. -/
def stuckMissing (k : TxnKind) : State :=
  (((missing 2 false).setMotion 300 .stuck).setSlot 0 0 none).modLine 0 fun x => { x with
    queue := [{ valve := 300, cmd := .stop, next := none }, { valve := 301, cmd := .stop, next := none }]
    txn := some { addr := 10, kind := k, visit := decide (k = .query), gone := false } }

theorem test_witness_StuckMissesRemoveEntries :
    (∀ k ∈ [TxnKind.query, .stop], ((stuckMissing k).line 0).txn.map (fun t => (t.addr, t.kind, t.gone)) = some (10, k, false) ∧
      k ≠ .sample ∧ (stuckMissing k).device = .running ∧
      ((stuckMissing k).line 0).node? 10 = some { misses := 2, lastValid := some 1 } ∧
      ((stuckMissing k).valveAt 0 10).map (fun e => (e.1, e.2.vol.motion)) = some (300, .stuck)) := by decide +kernel

/-- A STUCK valve's third miss takes its entry off the queue and leaves it STUCK (R36). -/
theorem test_stuck_miss : ran (.miss 0) (stuckMissing .stop) (fun t =>
    decide ((t.line 0).queue.map (·.valve) = [301]) && decide (t.motion 300 = .stuck)) = true := by decide +kernel

/-! ## Timers -/

theorem test_witness_MotionTimersMakeTheValveStuck :
    (∀ m, demo.motionAt 0 0 = some m → m.motionTimer = none) ∧
    (closing.motionAt 0 0 = some (closingMotion 300) ∧ (closing.valve? (closingMotion 300).valve).isSome ∧
      (closingMotion 300).motionTimer = some 118000 ∧ closing.tenancy 0 5 = true ∧
      (closing.inc 0).stepFor 300 = some (stepOf 300 .moving 1) ∧ (stepOf 300 .moving 1).takenUp = false) ∧
    ((stopHead.modMotion 0 0 fun m => { m with stopTimer := some 20000 }).motionAt 0 0).map (·.stopTimer) =
      some (some 20000) := by
  refine ⟨fun m h => ?_, by decide +kernel, by decide +kernel⟩
  have n : demo.motionAt 0 0 = none := by decide +kernel
  rw [n] at h; cases h

theorem test_motionTimer : ran (.motionTimerExpiry 0 0) closing (fun t => decide (t.motion 300 = .stuck) &&
      decide (t.now = 118000) && decide ((t.line 0).queue.map (fun e => (e.valve, e.cmd)) = [(300, .stop)])) = true ∧
    ran (.motionTimerExpiry 0 2) closing (fun t => decide (t = closing)) = true := by decide +kernel
theorem test_stopTimer : ran (.stopTimerExpiry 0 0) (stopHead.modMotion 0 0 fun m => { m with stopTimer := some 20000 }) (fun t =>
    decide (t.motion 300 = .stuck) && decide (((t.inc 0).stepFor 300).map (·.cause) = some (some .stopTimeout))) = true := by
  decide +kernel

def watching (ring : List Sample) (fresh : Bool) : State :=
  ((heldIn .isolated .closed).modInc 0 fun x => { x with watch := .running 900000 }).modPoint 20 fun p =>
    { p with ring := ring, fresh := fresh }

/-- No fresh point, one at the drained threshold of 50, one above it (R141). -/
theorem test_witness_ConfirmationTimerDecidesTheWatch :
    (∀ e, (demo.inc 0).watch ≠ .running e) ∧
    (((watching [] false).inc 0).watch = .running 900000 ∧ (watching [] false).freshPoints 0 = []) ∧
    ((watching [⟨50, 1⟩] true).freshPoints 0 ≠ [] ∧
      ∀ p ∈ (watching [⟨50, 1⟩] true).freshPoints 0, (watching [⟨50, 1⟩] true).readsDrained p = true) ∧
    ¬ ∀ p ∈ (watching [⟨51, 1⟩] true).freshPoints 0, (watching [⟨51, 1⟩] true).readsDrained p = true := by
  refine ⟨fun e h => ?_, by decide +kernel, by decide +kernel, by decide +kernel⟩
  have n : (demo.inc 0).watch = .idle := by decide +kernel
  rw [n] at h; cases h

/-- An isolated incident with a point in its zone and without one; and one in CLOSING with nothing due. -/
theorem test_witness_IsolationStartsTheWatch :
    (heldIn .closing .closed).isolate?.isSome = true ∧ (heldIn .closing .skipped).isolate?.isSome = true ∧
    (∃ e ∈ (heldIn .closing .closed).points, e.2.asg.seg ∈ ((heldIn .closing .closed).inc 0).zoneList) ∧
    ({ heldIn .closing .closed with points := [] } : State).isolate?.isSome = true ∧
    ((heldIn .closing .closed).inc 0).burst = some 200 ∧ ((heldIn .closing .closed).seg? 200).isSome = true ∧
    waitsForSlot.due? = none ∧ (waitsForSlot.inc 0).state = .closing := by decide +kernel

/-- The watch runs for the zone's 900 s, and without a point has ended (R139). -/
theorem test_isolate : ((heldIn .closing .closed).isolate?.map fun t => ((t.inc 0).state, (t.inc 0).watch)) =
      some (.isolated, .running 900000) ∧
    (({ heldIn .closing .closed with points := [] } : State).isolate?.map fun t => ((t.inc 0).watch, (t.inc 0).flags)) =
      some (.ended, IncFlag.isolated.bit ||| IncFlag.unmonitored.bit) := by decide +kernel

theorem test_confirmationTimer : ran (.confirmationTimerExpiry 0) (watching [] false)
      (fun t => decide ((t.inc 0).state = .isolated) && decide ((t.inc 0).flags = 0x0040)) = true ∧
    ran (.confirmationTimerExpiry 0) (watching [⟨50, 1⟩] true) (fun t => decide ((t.inc 0).state = .confirmed)) = true ∧
    ran (.confirmationTimerExpiry 0) (watching [⟨51, 1⟩] true) (fun t => decide ((t.inc 0).state = .leakThrough) &&
      decide (t.now = 900000)) = true := by decide +kernel

/-! ## Links -/

def discarding : State := demo.modPort .B fun p => { p with rx := .discarding }

theorem test_witness_FramesThatAreNoRequestAreDiscardedOrRefused :
    (demo.port .B).rx = .idle ∧ (discarding.port .B).rx = .discarding ∧
    (∃ m rest, ([0x5A] : List Byte) = m :: rest ∧ m ≠ 0xA5) ∧
    (∃ len rest, ([0xA5, 0xF1] : List Byte) = 0xA5 :: len :: rest ∧ 240 < len.toNat) ∧
    (∃ len kind tag body crc, ([0xA5, 0, 1, 2, 0xC1, 0x81] : List Byte) = 0xA5 :: len :: kind :: tag :: body ++ crc ∧
      len.toNat ≤ 240 ∧ body.length = len.toNat ∧ crc.length = 2 ∧
      crc ≠ numBytes 2 (crc16 (0xA5 :: len :: kind :: tag :: body)).toNat) ∧
    (∃ len rest, ([0xA5, 0xF0, 1] : List Byte) = 0xA5 :: len :: rest ∧ len.toNat ≤ 240 ∧ rest.length < len.toNat + 4) ∧
    (0 = 0 ∨ 40 < 0) ∧ 40 < 41 ∧ (demo.port (hd .B 240).link).takes ∧ (hd .B 240).len ≤ 240 :=
  ⟨by decide +kernel, by decide +kernel, ⟨0x5A, [], rfl, by decide⟩, ⟨0xF1, [], rfl, by decide⟩,
    ⟨0, 1, 2, [], [0xC1, 0x81], rfl, by decide, by decide, by decide, by decide +kernel⟩,
    ⟨0xF0, [1], rfl, by decide, by decide⟩, by decide, by decide, ⟨by decide +kernel, by decide +kernel, by decide +kernel⟩,
    by decide⟩

theorem test_discardedFrame : ran (.discardedFrame .B [0x5A]) demo (fun t =>
      decide (t.portB.rx = .discarding) && decide (t.portB.errors = 1)) = true ∧
    ran (.discardedFrame .B [0x5A]) discarding (fun t => decide (t = discarding)) = true := by decide +kernel
theorem test_idleGap : ran (.idleGap .B []) discarding (fun t => decide (t.portB.rx = .idle) && decide (t.portB.errors = 0)) = true ∧
    ran (.idleGap .B [0xA5, 0xF0, 1]) demo (fun t => decide (t.portB.rx = .idle) && decide (t.portB.errors = 1)) = true := by
  decide +kernel

def sending (replies : List Reply) (notice : Bool) : State :=
  demo.modPort .A fun p => { p with sending := some (.reply oneReply), replies := replies, noticePending := notice }

theorem test_witness_TransmissionEndSendsTheNextFrame :
    (demo.port .A).sending = none ∧ ((sending [oneReply] true).port .A).sending ≠ none ∧
    ((sending [oneReply] true).port .A).replies = oneReply :: [] ∧
    (((sending [] true).port .A).replies = [] ∧ ((sending [] true).port .A).noticePending = true) ∧
    ((sending [] false).port .A).noticePending = false := by decide +kernel

theorem test_transmissionEnd : ran (.transmissionEnd .A) (sending [oneReply] true) (fun t =>
      decide (t.portA.sending = some (.reply oneReply)) && decide (t.portA.noticePending)) = true ∧
    ran (.transmissionEnd .A) (sending [] true) (fun t =>
      decide (t.portA.sending = some (.notice 0 [])) && decide (t.portA.noticePending = false)) = true := by decide +kernel

/-! ## Arithmetic, policy and grants -/

/-- The ends of the ranges of R98: 1 m at 1,400 m/s and 4,000 m at 300 m/s. -/
theorem test_witness_ReflectionTimeIsTheLargerOfTheSides :
    (side 1 1400 400).inRange ∧ (side 4000 300 2500).inRange ∧ reflectionTime (side 1 1400 400) none = 2 ∧
      reflectionTime (side 1 1400 400) (some (side 4000 300 2500)) = 26667 := by
  refine ⟨?_, ?_, by decide +kernel, by decide +kernel⟩ <;> unfold Seg.inRange <;> decide

/-- A valve of 1 turn and one of 1,500, with speeds at their ends. -/
theorem test_witness_SlowSpeedLiesWithinTheValvesSpeeds :
    (stroke 1 60 1 3000).inRange ∧ (stroke 1500 1 1 0).inRange ∧ (side 1 1400 400).inRange ∧ (side 4000 300 2500).inRange := by
  refine ⟨?_, ?_, ?_, ?_⟩ <;> first | (unfold Seg.inRange; decide) | (unfold ValveStatic.inRange; decide)

/-- With rules 3 and 8 at the VALVE stage and both matching, the group led by rule 3 wins; with no group enabled none does. -/
def ruleMatch : Rule := { Rule.empty with stage := .valve, cmp := .outOfRange, low := 5, high := 5 }
def ruleTable : Vector Rule 32 := (Vector.replicate 32 Rule.empty).set 3 ruleMatch |>.set 8 ruleMatch
def groupTable : Vector Group 16 :=
  Group.emptyTable.set 2 { enabled := true, members := [8], lead := 8 } |>.set 9 { enabled := true, members := [3, 8], lead := 3 }

theorem test_witness_WinnerHasTheLowestLeadRule :
    winner ruleTable groupTable .valve (fun _ => 0) = some 9 ∧ winner ruleTable groupTable .plan (fun _ => 0) = none ∧
      groupMatches ruleTable (groupTable.get 2) .valve (fun _ => 0) = true := by decide +kernel

theorem test_witness_EffectivePriorityFollowsThePriorityMode : (0 ≤ 3 ∧ 3 ≤ 3) ∧
    (closing.incidentWork 0 = [] ∧
      ((heldIn .closing .waiting).modInc 0 fun x => { x with current := some 1 }).incidentWork 0 ≠ [] ∧
      (orphan301.modVol 301 fun x => { x with waiting := [.release 1] }).releaseWork ≠ []) := by decide +kernel

/-- V300's MOVE is sent to its node when nothing bars it; with V300 locked, nothing of it is. -/
def queued (s : State) : State :=
  s.modLine 0 fun x => { x with
    queue := [{ valve := 300, cmd := .move 10 20 .closing 145000, next := none }]
    furtherDue := true }

theorem test_witness_BarredMovesAreNeverSent :
    ((queued closing).line 0).txn = none ∧
      (((queued closing).nextTxn 0).line 0).txn = some { addr := 10, kind := .move, visit := false, gone := false } := by
  decide +kernel

/-- A poll visit has ended on line 0, with its queue, slots and lock list as given. -/
def further (s : State) (q : List Cmd) (locks : List LockEntry) : State :=
  { s.modLine 0 fun x => { x with furtherDue := true, queue := q.map fun c => { valve := 300, cmd := c, next := none } } with
    locks := locks }

/-- What a line takes next, one state for each clause: a poll visit, with nothing further due or nothing to take; a fast QUERY, slot 0
first after cursor 3; a STOP; a MOVE; and MOVEs that a lock or a hold bars. Something is due until every line has its transaction. -/
theorem test_witness_NextTransactions :
    (∀ s ∈ [demo, further demo [] [], further closing [] [], further closing [.stop] [],
        further closing [.move 10 20 .closing 145000] [], further closing [.move 10 20 .closing 145000] [⟨300, .B, 40⟩],
        further closing [.move 40 20 .opening 145000] []],
      (s.line 0).txn = none ∧ (s.line 0).nodes ≠ [] ∧ (s.line 0).cursor = some 10 ∧ (s.line 0).kept = [] ∧ (s.transact?).isSome = true) ∧
    ((further closing [] []).line 0).rotation = 3 ∧ (((further closing [] []).line 0).slots.get 0).isSome = true ∧
    closing.holds 300 = [0] ∧ (closing.moverAt 300).map (·.2.2.owner) = some (.step 0 5) ∧
    ((closing.inc 0).stepFor 300).isSome = true ∧ closing.tenancy 0 5 = true ∧
    (waitsForSlot.due? = none ∧ (waitsForSlot.line 0).state = .running ∧ (waitsForSlot.line 0).nodes ≠ []) := by decide +kernel

/-- The fast QUERY goes to V300's node and the cursor to slot 0; a locked valve's closing fails and no transaction begins. -/
theorem test_next :
    (let t := (further closing [] []).nextTxn 0
     ((t.line 0).txn.map fun x => (x.addr, x.kind, x.visit), (t.line 0).rotation) = (some (10, .query, false), 0)) ∧
    (let t := (further closing [.move 10 20 .closing 145000] [⟨300, .B, 40⟩]).nextTxn 0
     ((t.line 0).txn, ((t.inc 0).stepFor 300).map (·.cause), t.motionAt 0 0) = (none, some (some .locked), none)) := by decide +kernel

theorem test_barred : ((((queued { closing with locks := [⟨300, .B, 40⟩] }).nextTxn 0).line 0).txn.map (·.kind)) ≠ some .move := by
  decide +kernel

/-- Work of line 0, and an allowance request of zone 3 below its allowance of 2. -/
def asking : State := (closing.setMotion 300 .closeWait).askAllowance 300

/-- V300 closes in its slow phase and holds one of zone 3's two grants. -/
def slowHeld : State := slow300.modZone 3 fun z => { z with holders := [300] }

theorem test_witness_ArbitersGrantWithinTheirLimits :
    (((heldIn .closing .waiting).modInc 0 fun x => { x with current := some 1 }).nextWork 0 ≠ none ∧
      asking.allowanceGrant? 3 ≠ none ∧ asking.zoneOf 300 = 3) ∧
    slowHeld.modelSound ∧ slowHeld.allowanceSound ∧ 0 < slowHeld.slowCount 3 ∧
    (match step { slowHeld with pending := [.release (hd .A 2) 301] } with
      | .next _ => true
      | _ => false) = true :=
  ⟨by decide +kernel, sound_of (by decide +kernel) (by decide +kernel), State.allowanceSound_of (by decide +kernel),
    by decide +kernel, by decide +kernel⟩

/-- An arbiter's next item is of a kind and a valve, with a slot for it; of a step, it is the incident's own and taken up or not. -/
def grants (s : State) (k : WorkKind) (v : Nat) : Bool :=
  match s.nextWork 0 with
  | none => false
  | some w => decide (w.kind = k) && decide (w.valve = v) && (s.line 0).freeSlot.isSome && (s.valve? v).isSome &&
      (decide (k = .release) || (decide ((s.inc w.slot).tag = some w.tag) &&
        decide (((s.inc w.slot).stepFor v).map (·.takenUp) = some (decide (k = .open_)))))

/-- V301's closing step offered alone, V301 as given. -/
def closes301 (f : ValveVol → ValveVol) : State :=
  ((offered .running).modInc 0 fun x => { x with plan := some (planOf [stepOf 301 .waiting 1]) }).modVol 301 f

/-- V301's restore step offered, V301 as given. -/
def opens301 (f : ValveVol → ValveVol) : State :=
  ((incIn .restoring .waiting).modInc 0 fun x =>
    { x with plan := some (planOf [{ stepOf 301 .waiting 1 with takenUp := true }]), current := some 1 }).modVol 301 fun y =>
    f { y with waiting := [.restore 0 5] }

/-- V301 waits for its release, its normal position as given. -/
def releases301 (n : NormalPos) : State :=
  (orphan301.modVol 301 fun y => { y with waiting := [.release 1] }).modValve 301 fun y => { y with st := { y.st with normal := n } }

/-- V301 closes for a release. -/
def closesForRelease : State :=
  (closes301 fun y => { y with motion := .closeRun }).setSlot 0 1
    (some { opensFor (closingMotion 301) with dir := .closing })

/-- Each outcome of the two grant tests, and a release toward each normal position. -/
theorem test_witness_GrantTests :
    (∀ f ∈ [(id : ValveVol → ValveVol), fun y => { y with motion := .stuck }, fun y => { y with motion := .unresponsive },
        fun y => { y with motion := .localMode }, fun y => { y with closedRun := 2 }, fun y => { y with accepted := some 8 }],
      grants (closes301 f) .close 301 = true) ∧
    (grants closesForRelease .close 301 = true ∧
      (closesForRelease.mover 301).map (fun m => (m.dir, m.owner)) = some (.closing, .release 1)) ∧
    (grants { closes301 id with locks := [⟨301, .B, 32⟩] } .close 301 = true) ∧
    (∀ f ∈ [(id : ValveVol → ValveVol), fun y => { y with holds := [3] }, fun y => { y with accepted := some 7 },
        fun y => { y with accepted := some 8 }, fun y => { y with accepted := some 7, motion := .stuck }],
      grants (opens301 f) .open_ 301 = true) ∧
    (∀ n ∈ [NormalPos.opened, .closed], grants (releases301 n) .release 301 = true) ∧
    (waitsForSlot.due? = none ∧ waitsForSlot.nextWork 0 = none ∧ (waitsForSlot.line 0).state = .running ∧
      (waitsForSlot.line 0).slots.get 3 = none ∧ waitsForSlot.lineWork 0 ≠ [] ∧ (waitsForSlot.zone 3).guard = .clear ∧
      (waitsForSlot.zone 3).holders.length < (waitsForSlot.zone 3).record.allowance) := by decide +kernel

/-- A locked valve fails its step, one shut at rest is CLOSED without a slot, any other runs closed or, at b, asks for the allowance;
an open valve is RETAINED, one off open cracks open; a release toward CLOSED runs closed only above b (R153, R163, R164). -/
theorem test_grants :
    (({ closes301 id with locks := [⟨301, .B, 32⟩] } : State).slotGrant? 0).map (fun t => ((t.inc 0).stepFor 301).map (·.cause)) =
      some (some (some .locked)) ∧
    ((closes301 fun y => { y with closedRun := 2 }).slotGrant? 0).map
      (fun t => (((t.inc 0).stepFor 301).map (·.state), t.motionAt 0 0)) = some (some .closed, none) ∧
    ((closes301 fun y => { y with accepted := some 9 }).slotGrant? 0).map (·.motion 301) = some .closeRun ∧
    ((closes301 fun y => { y with accepted := some 8 }).slotGrant? 0).map (·.motion 301) = some .closeWait ∧
    ((opens301 id).slotGrant? 0).map (fun t => ((t.inc 0).stepFor 301).map (·.state)) = some (some .retained) ∧
    ((opens301 fun y => { y with accepted := some 7 }).slotGrant? 0).map (·.motion 301) = some .openWait ∧
    ((releases301 .closed).slotGrant? 0).map (·.motion 301) = some .closeWait := by decide +kernel

/-! ## Whole-machine rules -/

theorem test_witness_FramesAreReadBackAsTheirCommands :
    ((Instr.groupPut (hd .B 6) 4 1 [3, 8] 3).hdr? = some (hd .B 6) ∧ (Instr.groupPut (hd .B 6) 4 1 [3, 8] 3).wellFormed = true ∧
      (hd .B 6).len = (Instr.groupPut (hd .B 6) 4 1 [3, 8] 3).bodyLen) ∧
    ((Instr.feedSet (hd .A 239) (List.replicate 119 65535)).wellFormed = true ∧
      (Instr.feedSet (hd .A 239) (List.replicate 119 65535)).bodyLen ≤ 240) ∧
    ((Instr.report 3 192 1500 0xFF).wellFormed = true ∧ (Instr.report 3 192 1500 0xFF).replyFrame.isSome) ∧
    ((Instr.sampleReply 3 231 2500 1).wellFormed = true ∧ (Instr.sampleReply 3 231 2500 1).replyFrame.isSome) := by
  decide +kernel

/-- A request that changes nothing of the image, the policy edits, MARK and RESET all answer a next state. -/
theorem test_witness_OnlyEditsMarkAndResetChangeTheModel :
    ran (.lineStop (hd .A 1) 0) demo (fun _ => true) = true ∧
    ran (.rulePut (hd .A 13) 31 2 14 2 1 2 0 2 0 3 3) demo (fun _ => true) = true ∧
    ran (.groupPut (hd .A 6) 15 1 [3, 8] 3) demo (fun _ => true) = true ∧
    ran (.mark (hd .A 4) [300] 1) demo (fun _ => true) = true ∧ ran .reset demo (fun _ => true) = true := by decide +kernel

/-- Nothing in use, and an incident in CLOSING that holds both of its step valves. -/
theorem demo_incidents_sound : demo.incidentsSound := State.incidentsSound_of (by decide +kernel) (by decide +kernel)
theorem closing_incidents_sound : (heldIn .closing .waiting).incidentsSound :=
  State.incidentsSound_of (by decide +kernel) (by decide +kernel)

theorem demo_queues_sound : demo.queuesSound := by
  refine ⟨fun l => ?_, by decide +kernel, fun l => ?_⟩
  · have e : (demo.line l).queue = [] := by revert l; decide +kernel
    unfold Line.queueSound; rw [e]; decide
  · have e : demo.port l = idlePort := by cases l <;> rfl
    rw [e]; unfold Port.sound; decide +kernel

theorem demo_locks_sound : demo.lockListsSound := by
  refine ⟨?_, ?_, ?_⟩
  · exact ⟨by decide, by decide⟩
  · rintro c (h | h) <;> cases h
  · intro l c h; cases h

/-- A sound state with a command in front that gives a next state; OPEN in front takes a FREE slot into use. -/
theorem test_witness_EveryStepKeepsTheModelSound : demo.modelSound ∧
    (match step { demo with pending := [.segDrop (hd .A 2) 210] } with
      | .next _ => true
      | _ => false) = true := ⟨demo_sound, by decide +kernel⟩
theorem test_witness_EveryStepKeepsTheIncidentsSound : demo.incidentsSound ∧ (heldIn .closing .waiting).incidentsSound ∧
    (match step { heldIn .closing .waiting with pending := [.restore (hd .A 3) 0 5] } with
      | .next _ => true
      | _ => false) = true ∧
    (match step { demo with pending := [.openInc (hd .A 3) 200 1] } with
      | .next t => decide ((demo.inc 0).state = .free) && decide ((t.inc 0).state ≠ .free)
      | _ => false) = true := 
  ⟨demo_incidents_sound, closing_incidents_sound, by decide +kernel, by decide +kernel⟩
/-- A computation in its search, in its analysis and at its end, each of a sound state that steps on. -/
theorem test_witness_SearchInProgress : ∀ e ∈ [(0, CompStage.search), (4, .search), (10, .stranded), (100, .ready)],
    let c := after (searching [301] [210] []) e.1
    let s := computing (searching [301] [210] []) c
    c.stage = e.2 ∧ s.modelSound ∧ s.incidentsSound ∧ s.searchSound ∧
      (match step { s with pending := [.computationEnd] } with
        | .next _ => true
        | _ => false) = true := by
  intro e h
  refine ⟨by revert e; decide +kernel, sound_of (by revert e; decide +kernel) (by revert e; decide +kernel),
    State.incidentsSound_with (by revert e; decide +kernel) fun c m => ?_,
    State.searchSound_of rfl (by revert e; decide +kernel), by revert e; decide +kernel⟩
  cases m
  revert e
  unfold Comp.sound
  decide +kernel

theorem test_witness_EveryStepKeepsTheQueuesAndLockListsSound : demo.queuesSound ∧ demo.lockListsSound ∧
    (match step { demo with pending := [.lock (hd .A 2) 300] } with
      | .next _ => true
      | _ => false) = true := ⟨demo_queues_sound, demo_locks_sound, by decide +kernel⟩

/-! ## Effects that follow one another within a command -/

/-- V301 stands off its normal position, the only orphan; V302's restore step waits, its valve LOCAL. -/
def lastOrphan : State :=
  { (((awaiting.modVol 301 fun x => { x with accepted := some 7 }).modVol 302 fun x =>
      { x with accepted := some 7, motion := .localMode, waiting := [.restore 1 6] }).modInc 1 fun x =>
      { x with
        state := .restoring
        tag := some 6
        link := some .A
        burst := some 210
        plan := some (planOf [{ stepOf 302 .waiting 1 with takenUp := true }]) }) with orphanCount := 1 }

/-- The hold gained ends the one orphan, then the restore step fails at its grant test and leaves another: the count goes from 1 to
0 to 1, and the second rise raises ORPHANS_PRESENT (R59, log 26). -/
theorem test_orphans_rise_again : ran (.concur (hd .B 3) 0 5) lastOrphan (fun t =>
    decide (t.orphanCount = 1) && decide (t.holds 301 = [0]) &&
      decide (t.portB.device &&& DevFlag.orphansPresent.bit ≠ 0)) = true := by decide +kernel

/-- A mover keeps its step's number when its tenancy ends (R62, log 28). -/
theorem test_mover_keeps_number : ran (.abandon (hd .S 3) 0 5) closing (fun t =>
    decide ((t.motionAt 0 1).map (fun m => (m.stop, m.stepNo)) = some (some .abandon, some 2))) = true := by decide +kernel

/-- A MOVE kept for a full queue is timed anew when it is handed again: 24 turns at 20 tpm (R105, R169). -/
theorem test_kept_is_timed_anew : ran (.moveReply 0 10 0)
    (moveHead.modLine 0 fun x => { x with kept := [{ valve := 301, cmd := .move 8 20 .closing 1, next := none }] }) (fun t =>
    decide ((t.line 0).queue.map (·.cmd) = [.move 8 20 .closing (motionTimeout 24 20)])) = true := by decide +kernel

/-- Before the first CLOSING an incident that awaits concurrence takes no trigger; after a replan it does (R144). -/
theorem test_trigger_awaiting : ran (.mark (hd .A 4) [300] 1) awaiting (fun t =>
      decide ((t.inc 0).state = .awaitingConcurrence) && decide ((t.inc 0).excl = [])) = true ∧
    ran (.mark (hd .A 4) [300] 1) awaitingReplan (fun t => decide ((t.inc 0).state = .replanning)) = true := by decide +kernel

/-- A restore ends while it is HELD (R144, R154), and the lines' cursors name the slot last granted under FIXED (R159, log 29). -/
theorem test_restore_ends_held : ran (.grantMode (hd .A 1) 0 0 0)
      ((heldIn .held .failed).modInc 0 fun x => { x with heldFrom := some .restoring }) (fun t =>
      decide ((t.inc 0).state = .free)) = true ∧
    ran (.concur (hd .B 3) 0 5) awaiting (fun t => decide ((t.line 0).arbiter = 0)) = true := by decide +kernel

/-- A guard-stopped motion that RESTORE stops stays on the guard's list until it ends (R178). -/
theorem test_restore_stays_listed : ran (.restore (hd .A 3) 0 5)
    (((((closing.setMotion 300 .stopping).modMotion 0 0 fun m => { m with stop := some .guard }).modInc 0 fun x =>
      { x with state := .held, heldFrom := some .closing })).modZone 3 fun z =>
      { z with guard := .guarded, tripping := some 20, stopped := [⟨300, .step 0 5⟩] }) (fun t =>
    decide ((t.zone 3).stopped = [⟨300, .step 0 5⟩]) &&
      decide ((t.motionAt 0 0).map (·.stop) = some (some .restore))) = true := by decide +kernel

/-! ## Refusals: a command that another row spells -/

theorem test_refused_kind : (match exec (.unknownRequest (hd .A 0) 40) demo with
    | .refused r => decide (r = .kindIsListed)
    | _ => false) = true := by decide +kernel
theorem test_refused_frame : (match exec (.discardedFrame .A [0xA5, 0x00, 0x01, 0x02, 0xC1, 0x80]) demo with
    | .refused r => decide (r = .frameIsNotDiscarded)
    | _ => false) = true := by decide +kernel

end Sys2Proof.Tests
end

section
/-! The model edits (R6 to R13): an edit that passes tests 1 to 3 is answered by its own tests and effect, made on the
state before the request took its slot; then what SEG_PUT, SEG_DROP, ZONE_PUT and FEED_SET each find and write. -/

namespace Sys2Proof.Machine

open Sys2Proof

/-! ## Ordered tests -/

@[simp] theorem unlessRefused_nil (t : State) : unlessRefused [] t = .ok t := rfl

@[simp] theorem unlessRefused_cons (b : Bool) (o : Out) (tests : List (Bool × Out)) (t : State) :
    unlessRefused ((b, o) :: tests) t = if b then .error o else unlessRefused tests t := by
  cases b <;> rfl

/-- The tests do not look at the edited model: a change of it can wait until they are made. -/
theorem unlessRefused_map (tests : List (Bool × Out)) (t : State) (f : State → State) :
    (unlessRefused tests t).map f = unlessRefused tests (f t) := by
  unfold unlessRefused
  cases firstRefusal tests <;> rfl

/-- Tests that all pass leave the edited model given. -/
theorem eq_of_unlessRefused_ok {tests : List (Bool × Out)} {t u : State} (e : unlessRefused tests t = .ok u) : u = t := by
  unfold unlessRefused at e
  split at e
  · cases e
  · exact (Except.ok.inj e).symm

/-! ## The state that holds an edit's request -/

section
variable (s : State) (i : Instr) (h : Hdr)

@[simp] theorem State.holding_movesOn (n : Nat) : (s.holding i h).movesOn n = s.movesOn n := by
  unfold State.holding; cases h.link <;> rfl
@[simp] theorem State.holding_tripsOn (n : Nat) : (s.holding i h).tripsOn n = s.tripsOn n := by
  unfold State.holding; cases h.link <;> rfl
@[simp] theorem State.holding_pointOn (n : Nat) : (s.holding i h).pointOn n = s.pointOn n := by
  unfold State.holding; cases h.link <;> rfl
@[simp] theorem State.holding_slowCount (z : Fin 8) : (s.holding i h).slowCount z = s.slowCount z := by
  unfold State.holding; cases h.link <;> rfl

theorem State.holding_with_segs (segs : List (Nat × Seg)) :
    ({ s.holding i h with segs := segs } : State) = ({ s with segs := segs } : State).holding i h := by
  unfold State.holding; cases h.link <;> rfl
theorem State.holding_with_feeds (feeds : List Nat) :
    ({ s.holding i h with feeds := feeds } : State) = ({ s with feeds := feeds } : State).holding i h := by
  unfold State.holding; cases h.link <;> rfl
theorem State.holding_modZone (z : Fin 8) (f : Zone → Zone) :
    (s.holding i h).modZone z f = (s.modZone z f).holding i h := by
  unfold State.holding; cases h.link <;> rfl
theorem State.holding_counted : (s.holding i h).counted = s.counted.holding i h := by
  unfold State.holding; cases h.link <;> rfl

@[simp] theorem State.port_counted (l : Link) : s.counted.port l = s.port l := by cases l <;> rfl
@[simp] theorem State.port_modZone (l : Link) (z : Fin 8) (f : Zone → Zone) : (s.modZone z f).port l = s.port l := by
  cases l <;> rfl
theorem State.port_with_segs (l : Link) (segs : List (Nat × Seg)) :
    ({ s with segs := segs } : State).port l = s.port l := by cases l <;> rfl
theorem State.port_with_feeds (l : Link) (feeds : List Nat) :
    ({ s with feeds := feeds } : State).port l = s.port l := by cases l <;> rfl

end

/-! ## The admission of an edit -/

/-- An edit's own tests and effect do not depend on the slot that its request holds, and leave every port as it is. -/
structure SlotBlind (own : State → Except Out State) : Prop where
  holding : ∀ s i h, own (s.holding i h) = (own s).map (·.holding i h)
  port : ∀ s t, own s = .ok t → ∀ l, t.port l = s.port l

theorem State.readyToEdit.slot_free {s : State} {i : Instr} {h : Hdr} (hr : s.readyToEdit i h) :
    (s.port h.link).slot = none := by
  obtain ⟨⟨⟨⟨-, -, hslot⟩, -⟩, -⟩, -⟩ := hr
  exact hslot

theorem State.editTests_pass {s : State} {i : Instr} {h : Hdr} (hr : s.readyToEdit i h) :
    firstRefusal (s.holding i h).editTests = none := by
  obtain ⟨⟨-, hrun⟩, -, hwrite, hplan, huse⟩ := hr
  simp [State.editTests, firstRefusal, hrun, hwrite, hplan, huse]

section
variable {s t : State} {l : Link} {own : State → Except Out State}

theorem State.edit_error (hp : firstRefusal s.editTests = none) (after : State → State) {o : Out} (e : own s = .error o) :
    s.edit l after own = s.refuse l o := by
  simp only [State.edit, hp, e]

theorem State.edit_ok (hp : firstRefusal s.editTests = none) (after : State → State) (e : own s = .ok t) :
    s.edit l after own = after (t.counted.reply l .done []) := by
  simp only [State.edit, hp, e, State.counted]

end

section
variable {s t : State} {i : Instr} {h : Hdr} {own : State → Except Out State}

/-- A ready edit is made on the state that holds its request (R6). -/
theorem State.onRequest_edit (hr : s.readyToEdit i h) (hc : isModelEdit i = true) (after : State → State)
    (own : State → Except Out State) :
    s.onRequest i h (isControl h.link) (fun s => s.edit h.link after own) =
      .next ((s.holding i h).edit h.link after own) := by
  have hcode : 1 ≤ i.code?.getD 0 ∧ i.code?.getD 0 ≤ 40 := by
    unfold isModelEdit at hc
    split at hc
    · next n e =>
      simp only [Bool.and_eq_true, decide_eq_true_eq] at hc
      simp only [e, Option.getD_some]
      omega
    · cases hc
  rw [hr.2.1, State.onRequest_ready hr.1.1 _ hcode]

/-- A ready edit that one of its own tests refuses is answered so, and nothing else changes. -/
theorem State.onRequest_edit_error (hr : s.readyToEdit i h) (hc : isModelEdit i = true) (after : State → State)
    (hb : SlotBlind own) {o : Out} (e : own s = .error o) :
    s.onRequest i h (isControl h.link) (fun s => s.edit h.link after own) = .next (s.answers i h o []) := by
  have held : own (s.holding i h) = .error o := by rw [hb.holding, e]; rfl
  rw [State.onRequest_edit hr hc, State.edit_error (State.editTests_pass hr) after held, State.refuse_eq,
    State.reply_holding hr.slot_free]

/-- A ready edit that passes its own tests is counted in the revision and answered DONE (R6, R14). -/
theorem State.onRequest_edit_ok (hr : s.readyToEdit i h) (hc : isModelEdit i = true) (after : State → State)
    (hb : SlotBlind own) (e : own s = .ok t) :
    s.onRequest i h (isControl h.link) (fun s => s.edit h.link after own) =
      .next (after (t.counted.answers i h .done [])) := by
  have held : own (s.holding i h) = .ok (t.holding i h) := by rw [hb.holding, e]; rfl
  have free : (t.counted.port h.link).slot = none := by rw [State.port_counted, hb.port s t e, hr.slot_free]
  rw [State.onRequest_edit hr hc, State.edit_ok (State.editTests_pass hr) after held, State.holding_counted,
    State.reply_holding free]

end

/-! ## SEG_PUT and SEG_DROP -/

@[simp] theorem segUse?_code (u : SegUse) : segUse? u.code = some u := by cases u <;> rfl
@[simp] theorem protection?_code (p : Protection) : protection? p.code = some p := by cases p <;> rfl
@[simp] theorem toFin?_val {n : Nat} (z : Fin n) : toFin? n z.val = some z := by simp [toFin?]

/-- An index lies outside the segment table above S1023 (R1). -/
theorem maxSegs_le_iff (n : Nat) : n ≥ Config.maxSegs ↔ 1023 < n := Nat.succ_le_iff

@[simp] theorem within_iff (lo hi n : Nat) : within lo hi n = true ↔ lo ≤ n ∧ n ≤ hi := by simp [within]

/-- The fields that a SEG_PUT carries of a record in range are read back, without its valve list. -/
theorem segFields_codes {x : Seg} (hx : x.inRange) :
    segFields x.use.code x.zone.val x.length x.celerity x.rating x.diameter x.protection.code =
      some { x with valves := [] } := by
  obtain ⟨h1, h2, h3, h4, h5, h6, h7, h8⟩ := hx
  simp [segFields, *]

theorem exec_segPut {x : Seg} (hx : x.inRange) (h : Hdr) (s : State) (n : Nat) :
    exec (x.put h n) s = s.onRequest (x.put h n) h (isControl h.link) fun s =>
      s.edit h.link id (State.putSeg n (some { x with valves := [] })) := by
  rw [← segFields_codes hx]; rfl

theorem exec_segDrop (h : Hdr) (s : State) (n : Nat) :
    exec (.segDrop h n) s = s.onRequest (.segDrop h n) h (isControl h.link) fun s =>
      s.edit h.link id (State.dropSeg n) := rfl

theorem slotBlind_putSeg (n : Nat) (fields : Option Seg) : SlotBlind (State.putSeg n fields) where
  holding s i h := by
    simp only [State.putSeg, State.holding_read_seg]
    split
    · rfl
    · cases fields with
      | none => rfl
      | some x =>
        cases s.seg? n with
        | none => simp only [State.holding_segs, State.holding_with_segs]; rfl
        | some old =>
          simp only [State.holding_movesOn, State.holding_tripsOn, State.holding_segs, State.holding_with_segs,
            unlessRefused_map]
  port s t e l := by
    unfold State.putSeg at e
    split at e
    · cases e
    · cases fields with
      | none => cases e
      | some x =>
        cases old : s.seg? n with
        | none => simp only [old] at e; obtain rfl := Except.ok.inj e; exact State.port_with_segs ..
        | some y => simp only [old] at e; obtain rfl := eq_of_unlessRefused_ok e; exact State.port_with_segs ..

theorem slotBlind_dropSeg (n : Nat) : SlotBlind (State.dropSeg n) where
  holding s i h := by
    simp only [State.dropSeg, State.holding_read_seg]
    split
    · rfl
    · cases s.seg? n with
      | none => rfl
      | some x =>
        dsimp only
        rw [State.holding_pointOn, State.holding_segs, State.holding_with_segs, State.holding_feeds, unlessRefused_map]
  port s t e l := by
    unfold State.dropSeg at e
    split at e
    · cases e
    · cases old : s.seg? n with
      | none => simp only [old] at e; cases e
      | some x => simp only [old] at e; obtain rfl := eq_of_unlessRefused_ok e; exact State.port_with_segs ..

section
variable {s : State} {n : Nat}

theorem State.putSeg_undefined (hn : n ≤ 1023) (hs : s.seg? n = none) (x : Seg) :
    s.putSeg n (some x) = .ok { s with segs := tabPut s.segs n x } := by
  simp only [State.putSeg, hs, maxSegs_le_iff, if_neg (Nat.not_lt.mpr hn)]

theorem State.putSeg_defined {old : Seg} (hn : n ≤ 1023) (hs : s.seg? n = some old) (x : Seg) :
    s.putSeg n (some x) =
      if x.zone ≠ old.zone ∧ (s.movesOn n = true ∨ s.tripsOn n = true) then .error .inUse
      else .ok { s with segs := tabPut s.segs n { x with valves := old.valves } } := by
  simp [State.putSeg, hs, maxSegs_le_iff, Nat.not_lt.mpr hn]

theorem State.dropSeg_outside (hn : 1023 < n) : s.dropSeg n = .error .badIndex := by
  simp only [State.dropSeg, maxSegs_le_iff, if_pos hn]

theorem State.dropSeg_undefined (hs : s.seg? n = none) : s.dropSeg n = .error .badIndex := by
  simp only [State.dropSeg, hs, ite_self]

theorem State.pointOn_isSome : (s.pointOn n).isSome = true ↔ ∃ e ∈ s.points, e.2.asg.seg = n := by
  simp [State.pointOn]

theorem State.dropSeg_defined {x : Seg} (hn : n ≤ 1023) (hs : s.seg? n = some x) :
    s.dropSeg n =
      if x.valves ≠ [] ∨ (∃ e ∈ s.points, e.2.asg.seg = n) ∨ n ∈ s.feeds then .error .inUse
      else .ok { s with segs := tabDrop s.segs n } := by
  simp only [State.dropSeg, hs, maxSegs_le_iff, if_neg (Nat.not_lt.mpr hn), unlessRefused_cons, unlessRefused_nil,
    Bool.or_eq_true, or_assoc, State.pointOn_isSome, Bool.not_eq_true', List.isEmpty_eq_false_iff, List.contains_iff_mem]

end

/-- Settles O14: the edit's own tests and effect, found case by case, are what the ready request is answered with. -/
theorem segPutAndSegDropWriteOneSegment : Obligations.SegPutAndSegDropWriteOneSegment := by
  refine ⟨fun h s n x hr hn hx => ?_, fun h s n hr => ?_⟩
  · rw [exec_segPut hx]
    refine ⟨fun undefined => ?_, fun old defined => ?_⟩
    · exact State.onRequest_edit_ok hr rfl id (slotBlind_putSeg ..) (State.putSeg_undefined hn undefined _)
    · have own := State.putSeg_defined hn defined { x with valves := [] }
      split
      · next barred => exact State.onRequest_edit_error hr rfl id (slotBlind_putSeg ..) (own.trans (if_pos barred))
      · next free => exact State.onRequest_edit_ok hr rfl id (slotBlind_putSeg ..) (own.trans (if_neg free))
  · rw [exec_segDrop]
    refine ⟨fun outside => ?_, fun hn => ?_⟩
    · exact State.onRequest_edit_error hr rfl id (slotBlind_dropSeg n) (State.dropSeg_outside outside)
    · split
      · next undefined =>
        exact State.onRequest_edit_error hr rfl id (slotBlind_dropSeg n) (State.dropSeg_undefined undefined)
      · next x defined =>
        have own := State.dropSeg_defined hn defined
        refine ⟨fun used => ?_, fun noValves noPoint noFeed => ?_⟩
        · exact State.onRequest_edit_error hr rfl id (slotBlind_dropSeg n) (own.trans (if_pos used))
        · have free : ¬ (x.valves ≠ [] ∨ (∃ e ∈ s.points, e.2.asg.seg = n) ∨ n ∈ s.feeds) := by
            rintro (valves | ⟨e, he, point⟩ | feed)
            · exact valves noValves
            · exact noPoint e he point
            · exact noFeed feed
          exact State.onRequest_edit_ok hr rfl id (slotBlind_dropSeg n) (own.trans (if_neg free))

/-! ## ZONE_PUT and FEED_SET -/

theorem zoneFields_record {r : ZoneRec} (hx : r.inRange) :
    zoneFields r.nominal r.drained r.window r.allowance = some r := by
  obtain ⟨h1, h2, h3, h4, h5, h6, h7⟩ := hx
  simp [zoneFields, *]

theorem exec_zonePut {r : ZoneRec} (hx : r.inRange) (h : Hdr) (s : State) (z : Nat) :
    exec (r.put h z) s = s.onRequest (r.put h z) h (isControl h.link) fun s =>
      s.edit h.link State.finish (State.putZone z (some r)) := by
  rw [← zoneFields_record hx]; rfl

theorem exec_feedSet (h : Hdr) (s : State) (l : List Nat) :
    exec (.feedSet h l) s = s.onRequest (.feedSet h l) h (isControl h.link) fun s =>
      s.edit h.link id (State.putFeeds l) := rfl

theorem State.putZone_eq (s : State) (z : Fin 8) (r : ZoneRec) :
    s.putZone z.val (some r) =
      if r.allowance < s.slowCount z then .error .inUse else .ok (s.modZone z fun y => { y with record := r }) := by
  simp only [State.putZone, toFin?_val, unlessRefused_cons, unlessRefused_nil, decide_eq_true_eq]

theorem slotBlind_putZone (z : Fin 8) (r : ZoneRec) : SlotBlind (State.putZone z.val (some r)) where
  holding s i h := by
    simp only [State.putZone_eq, State.holding_slowCount, State.holding_modZone]
    split <;> rfl
  port s t e l := by
    rw [State.putZone_eq] at e
    split at e
    · cases e
    · obtain rfl := Except.ok.inj e
      exact State.port_modZone ..

/-! ### A list of segments without a repeat -/

/-- The step of `dedup`: an item joins unless it is there. -/
def joined (acc : List Nat) (x : Nat) : List Nat := if acc.contains x then acc else acc ++ [x]

theorem dedup_eq_foldl (l : List Nat) : dedup l = l.foldl joined [] := rfl

theorem nodup_foldl_joined (l : List Nat) {acc : List Nat} (h : acc.Nodup) : (l.foldl joined acc).Nodup := by
  induction l generalizing acc with
  | nil => exact h
  | cons x rest ih =>
    refine ih ?_
    unfold joined
    split
    · exact h
    · next new =>
      have apart : ∀ y ∈ acc, ∀ z ∈ [x], y ≠ z := fun y hy z hz same =>
        new (List.contains_iff_mem.2 (List.mem_singleton.1 hz ▸ same ▸ hy))
      exact List.nodup_append.2 ⟨h, List.pairwise_singleton _ x, apart⟩

theorem foldl_joined_of_nodup (l : List Nat) {acc : List Nat} (h : (acc ++ l).Nodup) : l.foldl joined acc = acc ++ l := by
  induction l generalizing acc with
  | nil => simp
  | cons x rest ih =>
    have new : x ∉ acc := fun old => (List.nodup_append.1 h).2.2 x old x List.mem_cons_self rfl
    have step : joined acc x = acc ++ [x] := by simp [joined, new]
    rw [List.foldl_cons, step, ih (by simpa using h), List.append_assoc, List.singleton_append]

theorem dedup_eq_self_iff (l : List Nat) : dedup l = l ↔ l.Nodup := by
  refine ⟨fun h => ?_, fun h => ?_⟩
  · rw [← h, dedup_eq_foldl]; exact nodup_foldl_joined l List.nodup_nil
  · rw [dedup_eq_foldl]; exact foldl_joined_of_nodup l h

theorem maxFeeds_lt_iff (n : Nat) : Config.maxFeeds < n ↔ 16 < n := Iff.rfl

theorem State.putFeeds_eq (s : State) (l : List Nat) :
    s.putFeeds l =
      if 16 < l.length ∨ ¬ l.Nodup then .error .outOfRange
      else if ∃ n ∈ l, 1023 < n ∨ s.seg? n = none then .error .badIndex
      else .ok { s with feeds := l } := by
  simp [State.putFeeds, dedup_eq_self_iff, maxSegs_le_iff, maxFeeds_lt_iff]

theorem slotBlind_putFeeds (l : List Nat) : SlotBlind (State.putFeeds l) where
  holding s i h := by
    simp only [State.putFeeds, State.holding_read_seg, State.holding_with_feeds, unlessRefused_map]
  port s t e k := by
    obtain rfl := eq_of_unlessRefused_ok e
    exact State.port_with_feeds ..

/-- Settles O17: the edit's own tests in their order, and its effect when none fails. -/
theorem zonePutAndFeedSetReplaceTheirRecords : Obligations.ZonePutAndFeedSetReplaceTheirRecords := by
  refine ⟨fun h s z r hr hx => ?_, fun h s l hr => ?_⟩
  · have own := State.putZone_eq s z r
    rw [exec_zonePut hx]
    split
    · next below =>
      exact State.onRequest_edit_error hr rfl State.finish (slotBlind_putZone z r) (own.trans (if_pos below))
    · next enough =>
      exact State.onRequest_edit_ok hr rfl State.finish (slotBlind_putZone z r) (own.trans (if_neg enough))
  · have own := State.putFeeds_eq s l
    rw [exec_feedSet]
    split
    · next long => exact State.onRequest_edit_error hr rfl id (slotBlind_putFeeds l) (own.trans (if_pos long))
    · next short =>
      rw [if_neg short] at own
      split
      · next bad => exact State.onRequest_edit_error hr rfl id (slotBlind_putFeeds l) (own.trans (if_pos bad))
      · next good => exact State.onRequest_edit_ok hr rfl id (slotBlind_putFeeds l) (own.trans (if_neg good))

end Sys2Proof.Machine
end

section
/-! The reflection time (R98): rounding up, the larger of the two sides, and what the governing side gives to the later
figures. -/

namespace Sys2Proof.Machine

open Sys2Proof

/-! ## The quotient rounded up (section 7.3) -/

theorem ceilDiv_le_iff {b : Nat} (hb : 0 < b) (a r : Nat) : ceilDiv a b ≤ r ↔ a ≤ r * b := by
  rw [ceilDiv, Nat.div_le_iff_le_mul hb]
  omega

/-! ## One side -/

theorem Seg.inRange.celerity_pos {x : Seg} (hx : x.inRange) : 0 < x.celerity := by
  obtain ⟨-, -, slowest, -⟩ := hx
  omega

theorem reflection_le_iff {x : Seg} (hx : x.inRange) (r : Nat) :
    reflection x ≤ r ↔ 2000 * x.length ≤ r * x.celerity :=
  ceilDiv_le_iff hx.celerity_pos _ r

/-- The shortest segment at the fastest wave takes more than 1 ms. -/
theorem two_le_reflection {x : Seg} (hx : x.inRange) : 2 ≤ reflection x := by
  have within := reflection_le_iff hx 1
  obtain ⟨shortest, -, -, fastest, -⟩ := hx
  omega

/-- The longest segment at the slowest wave takes no more than 26,667 ms. -/
theorem reflection_le_max {x : Seg} (hx : x.inRange) : reflection x ≤ 26667 := by
  have within := reflection_le_iff hx 26667
  obtain ⟨-, longest, slowest, -⟩ := hx
  omega

/-! ## The two sides -/

@[simp] theorem governing_none (a : Seg) : governing a none = a := rfl

theorem governing_some (a y : Seg) : governing a (some y) = if reflection y ≤ reflection a then a else y := by
  simp only [governing, ← Nat.not_lt, ite_not]

theorem governing_inRange {a : Seg} {b : Option Seg} (ha : a.inRange) (hb : ∀ y, b = some y → y.inRange) :
    (governing a b).inRange := by
  cases b with
  | none => exact ha
  | some y =>
    rw [governing_some]
    split
    · exact ha
    · exact hb y rfl

theorem reflectionTime_some (a y : Seg) : reflectionTime a (some y) = max (reflection a) (reflection y) := by
  rw [reflectionTime, governing_some]
  split
  · next bySideA => exact (Nat.max_eq_left bySideA).symm
  · next bySideB => exact (Nat.max_eq_right (Nat.le_of_not_le bySideB)).symm

/-! ## The segments of a valve's sides -/

/-- The index of the governing side, whose current pressure is taken, names the record whose celerity is taken. -/
theorem State.segOf_governingSeg (s : State) (st : ValveStatic) :
    s.segOf (s.governingSeg st) = governing (s.segOf st.sideA) (st.sideB.map s.segOf) := by
  unfold State.governingSeg
  cases st.sideB with
  | none => rfl
  | some n => exact apply_ite s.segOf _ n st.sideA

/-- Settles O50: the bounds are those of a single side, since the governing side is one of the two. -/
theorem reflectionTimeIsTheLargerOfTheSides : Obligations.ReflectionTimeIsTheLargerOfTheSides := by
  refine ⟨fun a b ha hb => ⟨reflection_le_iff ha, ?external, ?segment, ?least, ?most⟩,
    fun s st burst cls => ⟨s.segOf_governingSeg st, rfl, rfl⟩⟩
  case external =>
    rintro rfl
    exact ⟨governing_none a, rfl⟩
  case segment =>
    rintro y rfl
    exact ⟨reflectionTime_some a y, governing_some a y⟩
  case least => exact two_le_reflection (governing_inRange ha hb)
  case most => exact reflection_le_max (governing_inRange ha hb)

end Sys2Proof.Machine
end
